-- ==== Sys2Proof/Word.lean ====
section
/-! DEFINITION. The machine's words: a bus byte and register is 8 bits wide, a register pair, PC, SP and an address
are 16 bits wide (spec/00_scope.md R11, R13). Arithmetic on them wraps (spec/10_state.md R23, R28, R29). -/

namespace Sys2Proof

/-- An 8-bit register or bus byte (R11). -/
abbrev Byte := BitVec 8

/-- A 16-bit register pair, PC, SP or bus address (R11). -/
abbrev Word := BitVec 16

end Sys2Proof
end

