-- ==== Sys2Proof/Config.lean ====
section
/-! DEFINITION. What the spec leaves to a launch or to an implementation (spec/00_scope.md R12): the parameters a model
takes as arguments, each with the spec's reference value. The hardware leaves no value free (spec/93: the source is
deterministic, no entry is 'any value'), so no opaque constant stands here. -/

namespace Sys2Proof

/-- One of the four fixed shades of a framebuffer pixel (R32, R277, decision D18). -/
inductive Shade where
  | white
  | lightGray
  | darkGray
  | black
deriving DecidableEq, Repr

namespace Config

/-- Which defined opcodes an interpreter leaves out (R4, R12, D2). `IMPL_PRIMARY` is every defined primary byte
except 0x10, 0x76 and the bytes of `leftOutPrimary`; `IMPL_CB` is every second byte except those of `leftOutCb`.
Put this way round, the spec's 'never 0xCB, 0x10, 0x76 or the 11 undefined bytes' holds whatever the lists are. -/
structure Interpreter where
  leftOutPrimary : List Byte
  leftOutCb      : List Byte
deriving DecidableEq, Repr

/-- The reference `IMPL_PRIMARY` and `IMPL_CB` of R12: nothing more is left out. -/
def referenceInterpreter : Interpreter := { leftOutPrimary := [], leftOutCb := [] }

/-- `RESET_REGS` (R12, R37, D3, D5). The spec requires F[3:0] = 0 of it. -/
structure ResetRegs where
  a  : Byte
  f  : Byte
  b  : Byte
  c  : Byte
  d  : Byte
  e  : Byte
  h  : Byte
  l  : Byte
  sp : Word
deriving DecidableEq, Repr

/-- The reference `RESET_REGS`: all zero (D3, D5). -/
def referenceResetRegs : ResetRegs :=
  { a := 0, f := 0, b := 0, c := 0, d := 0, e := 0, h := 0, l := 0, sp := 0 }

/-- What the boot-image collaborator supplies (R312, R263): a byte sequence, a missing or unreadable file, or nothing
because a test launch skips the boot image (R313). -/
inductive BootSource where
  | image (bytes : List Byte)
  | unreadable
  | skipped
deriving DecidableEq, Repr

/-- What the cartridge collaborator supplies (R311, R263). -/
inductive CartSource where
  | image (bytes : List Byte)
  | unreadable
deriving DecidableEq, Repr

/-- The launch inputs of a run (R12, R309, R313). -/
structure Launch where
  interpreter : Interpreter
  resetRegs   : ResetRegs
  entryPc     : Word
  fbReset     : List (List Shade)
  cart        : CartSource
  boot        : BootSource
  stopPcs     : List Word
deriving DecidableEq, Repr

/-- The framebuffer's size (R11, R32): 160 columns and 144 rows. -/
def screenWidth : Nat := 160

/-- The framebuffer's rows, which are the visible lines (R11). -/
def visibleLines : Nat := 144

/-- The reference `FB_RESET`: every pixel white (D17). -/
def referenceFbReset : List (List Shade) :=
  List.replicate visibleLines (List.replicate screenWidth .white)

/-- The reference launch of R12 with no image loaded: an empty cartridge and a skipped boot image. -/
def referenceLaunch : Launch :=
  { interpreter := referenceInterpreter, resetRegs := referenceResetRegs, entryPc := 0x0000,
    fbReset := referenceFbReset, cart := .image [], boot := .skipped, stopPcs := [] }

end Config

end Sys2Proof
end

