-- ==== Sys2Proof/Machine/Bits.lean ====
section
/-! DEFINITION. The bit-field, byte-order and sign-extension helpers of spec/00_scope.md R13. -/

namespace Sys2Proof

/-- `hi8:lo8`, the 16-bit value hi8*256 + lo8 (R13). -/
def wordOf (hi lo : Byte) : Word := hi ++ lo

/-- `v[7:0]` of a 16-bit v (R13). -/
def loByte (v : Word) : Byte := v.extractLsb' 0 8

/-- `v[15:8]` of a 16-bit v (R13). -/
def hiByte (v : Word) : Byte := v.extractLsb' 8 8

/-- `sext_16(v)` (R13). -/
def sext16 (v : Byte) : Word := v.signExtend 16

/-- `zext_16(v)` (R13). -/
def zext16 (v : Byte) : Word := v.setWidth 16

/-- Bits 7:6 of an opcode byte: the block of the primary map, the group of the CB map (R89, R90). -/
def fieldGroup (op : Byte) : BitVec 2 := op.extractLsb' 6 2

/-- Bits 5:3 of an opcode byte: `ddd`, `aaa`, `ttt`, `ooo` or `bbb` (R85, R89). -/
def fieldMid (op : Byte) : BitVec 3 := op.extractLsb' 3 3

/-- Bits 2:0 of an opcode byte: `sss` or `rrr` (R85). -/
def fieldLow (op : Byte) : BitVec 3 := op.extractLsb' 0 3

end Sys2Proof
end

