-- ==== Sys2Proof/Syntax.lean ====
section
/-! DEFINITION. The instructions: one constructor per row of spec/opcode_table.json, named after the row's mnemonic, its
arguments the immediate byte or word or the bit number that the row's encoding leaves open. Register, pair and condition
operands are part of the row and so of the constructor's name; `Ind` marks memory at the address that follows it, as
parentheses do in the mnemonics (R18). -/

namespace Sys2Proof

/-- The instruction set of R91 and R92: first the rows with arguments, then the rows without, each in the table's order.
(Lean's runtime numbers the constructors and takes arguments only on the first 245.) -/
inductive Instr where
  /-- `LD BC,d16` (R130) -/
  | ldBCD16 (v : Word)
  /-- `LD B,d8` (R102) -/
  | ldBD8 (v : Byte)
  /-- `LD (a16),SP` (R131) -/
  | ldIndA16SP (a : Word)
  /-- `LD C,d8` (R102) -/
  | ldCD8 (v : Byte)
  /-- `LD DE,d16` (R130) -/
  | ldDED16 (v : Word)
  /-- `LD D,d8` (R102) -/
  | ldDD8 (v : Byte)
  /-- `JR e8` (R234) -/
  | jrE8 (e : Byte)
  /-- `LD E,d8` (R102) -/
  | ldED8 (v : Byte)
  /-- `JR NZ,e8` (R235) -/
  | jrNZE8 (e : Byte)
  /-- `LD HL,d16` (R130) -/
  | ldHLD16 (v : Word)
  /-- `LD H,d8` (R102) -/
  | ldHD8 (v : Byte)
  /-- `JR Z,e8` (R235) -/
  | jrZE8 (e : Byte)
  /-- `LD L,d8` (R102) -/
  | ldLD8 (v : Byte)
  /-- `JR NC,e8` (R235) -/
  | jrNCE8 (e : Byte)
  /-- `LD SP,d16` (R130) -/
  | ldSPD16 (v : Word)
  /-- `LD (HL),d8` (R105) -/
  | ldIndHLD8 (v : Byte)
  /-- `JR C,e8` (R235) -/
  | jrCE8 (e : Byte)
  /-- `LD A,d8` (R102) -/
  | ldAD8 (v : Byte)
  /-- `JP NZ,a16` (R232) -/
  | jpNZA16 (t : Word)
  /-- `JP a16` (R231) -/
  | jpA16 (t : Word)
  /-- `CALL NZ,a16` (R237) -/
  | callNZA16 (t : Word)
  /-- `ADD A,d8` (R155) -/
  | addAD8 (v : Byte)
  /-- `JP Z,a16` (R232) -/
  | jpZA16 (t : Word)
  /-- `PREFIX CB` (R256) -/
  | prefixCb (op2 : Byte)
  /-- `CALL Z,a16` (R237) -/
  | callZA16 (t : Word)
  /-- `CALL a16` (R236) -/
  | callA16 (t : Word)
  /-- `ADC A,d8` (R158) -/
  | adcAD8 (v : Byte)
  /-- `JP NC,a16` (R232) -/
  | jpNCA16 (t : Word)
  /-- `CALL NC,a16` (R237) -/
  | callNCA16 (t : Word)
  /-- `SUB d8` (R161) -/
  | subD8 (v : Byte)
  /-- `JP C,a16` (R232) -/
  | jpCA16 (t : Word)
  /-- `CALL C,a16` (R237) -/
  | callCA16 (t : Word)
  /-- `SBC A,d8` (R164) -/
  | sbcAD8 (v : Byte)
  /-- `LDH (a8),A` (R113) -/
  | ldhIndA8A (n : Byte)
  /-- `AND d8` (R167) -/
  | andD8 (v : Byte)
  /-- `ADD SP,e8` (R193) -/
  | addSPE8 (e : Byte)
  /-- `LD (a16),A` (R111) -/
  | ldIndA16A (a : Word)
  /-- `XOR d8` (R170) -/
  | xorD8 (v : Byte)
  /-- `LDH A,(a8)` (R112) -/
  | ldhAIndA8 (n : Byte)
  /-- `OR d8` (R173) -/
  | orD8 (v : Byte)
  /-- `LD HL,SP+e8` (R133) -/
  | ldHLSPE8 (e : Byte)
  /-- `LD A,(a16)` (R110) -/
  | ldAIndA16 (a : Word)
  /-- `CP d8` (R176) -/
  | cpD8 (v : Byte)
  /-- `BIT b,B` (R221) -/
  | bitB (b : BitVec 3)
  /-- `BIT b,C` (R221) -/
  | bitC (b : BitVec 3)
  /-- `BIT b,D` (R221) -/
  | bitD (b : BitVec 3)
  /-- `BIT b,E` (R221) -/
  | bitE (b : BitVec 3)
  /-- `BIT b,H` (R221) -/
  | bitH (b : BitVec 3)
  /-- `BIT b,L` (R221) -/
  | bitL (b : BitVec 3)
  /-- `BIT b,(HL)` (R222) -/
  | bitIndHL (b : BitVec 3)
  /-- `BIT b,A` (R221) -/
  | bitA (b : BitVec 3)
  /-- `RES b,B` (R223) -/
  | resB (b : BitVec 3)
  /-- `RES b,C` (R223) -/
  | resC (b : BitVec 3)
  /-- `RES b,D` (R223) -/
  | resD (b : BitVec 3)
  /-- `RES b,E` (R223) -/
  | resE (b : BitVec 3)
  /-- `RES b,H` (R223) -/
  | resH (b : BitVec 3)
  /-- `RES b,L` (R223) -/
  | resL (b : BitVec 3)
  /-- `RES b,(HL)` (R224) -/
  | resIndHL (b : BitVec 3)
  /-- `RES b,A` (R223) -/
  | resA (b : BitVec 3)
  /-- `SET b,B` (R225) -/
  | setB (b : BitVec 3)
  /-- `SET b,C` (R225) -/
  | setC (b : BitVec 3)
  /-- `SET b,D` (R225) -/
  | setD (b : BitVec 3)
  /-- `SET b,E` (R225) -/
  | setE (b : BitVec 3)
  /-- `SET b,H` (R225) -/
  | setH (b : BitVec 3)
  /-- `SET b,L` (R225) -/
  | setL (b : BitVec 3)
  /-- `SET b,(HL)` (R226) -/
  | setIndHL (b : BitVec 3)
  /-- `SET b,A` (R225) -/
  | setA (b : BitVec 3)
  /-- `NOP` (R250) -/
  | nop
  /-- `LD (BC),A` (R108) -/
  | ldIndBCA
  /-- `INC BC` (R190) -/
  | incBC
  /-- `INC B` (R177) -/
  | incB
  /-- `DEC B` (R179) -/
  | decB
  /-- `RLCA` (R200) -/
  | rlca
  /-- `ADD HL,BC` (R192) -/
  | addHLBC
  /-- `LD A,(BC)` (R106) -/
  | ldAIndBC
  /-- `DEC BC` (R191) -/
  | decBC
  /-- `INC C` (R177) -/
  | incC
  /-- `DEC C` (R179) -/
  | decC
  /-- `RRCA` (R201) -/
  | rrca
  /-- `STOP` (R254) -/
  | stop
  /-- `LD (DE),A` (R109) -/
  | ldIndDEA
  /-- `INC DE` (R190) -/
  | incDE
  /-- `INC D` (R177) -/
  | incD
  /-- `DEC D` (R179) -/
  | decD
  /-- `RLA` (R202) -/
  | rla
  /-- `ADD HL,DE` (R192) -/
  | addHLDE
  /-- `LD A,(DE)` (R107) -/
  | ldAIndDE
  /-- `DEC DE` (R191) -/
  | decDE
  /-- `INC E` (R177) -/
  | incE
  /-- `DEC E` (R179) -/
  | decE
  /-- `RRA` (R203) -/
  | rra
  /-- `LD (HL+),A` (R116) -/
  | ldIndHLIncA
  /-- `INC HL` (R190) -/
  | incHL
  /-- `INC H` (R177) -/
  | incH
  /-- `DEC H` (R179) -/
  | decH
  /-- `DAA` (R181) -/
  | daa
  /-- `ADD HL,HL` (R192) -/
  | addHLHL
  /-- `LD A,(HL+)` (R118) -/
  | ldAIndHLInc
  /-- `DEC HL` (R191) -/
  | decHL
  /-- `INC L` (R177) -/
  | incL
  /-- `DEC L` (R179) -/
  | decL
  /-- `CPL` (R182) -/
  | cpl
  /-- `LD (HL-),A` (R117) -/
  | ldIndHLDecA
  /-- `INC SP` (R190) -/
  | incSP
  /-- `INC (HL)` (R178) -/
  | incIndHL
  /-- `DEC (HL)` (R180) -/
  | decIndHL
  /-- `SCF` (R183) -/
  | scf
  /-- `ADD HL,SP` (R192) -/
  | addHLSP
  /-- `LD A,(HL-)` (R119) -/
  | ldAIndHLDec
  /-- `DEC SP` (R191) -/
  | decSP
  /-- `INC A` (R177) -/
  | incA
  /-- `DEC A` (R179) -/
  | decA
  /-- `CCF` (R184) -/
  | ccf
  /-- `LD B,B` (R101) -/
  | ldBB
  /-- `LD B,C` (R101) -/
  | ldBC
  /-- `LD B,D` (R101) -/
  | ldBD
  /-- `LD B,E` (R101) -/
  | ldBE
  /-- `LD B,H` (R101) -/
  | ldBH
  /-- `LD B,L` (R101) -/
  | ldBL
  /-- `LD B,(HL)` (R103) -/
  | ldBIndHL
  /-- `LD B,A` (R101) -/
  | ldBA
  /-- `LD C,B` (R101) -/
  | ldCB
  /-- `LD C,C` (R101) -/
  | ldCC
  /-- `LD C,D` (R101) -/
  | ldCD
  /-- `LD C,E` (R101) -/
  | ldCE
  /-- `LD C,H` (R101) -/
  | ldCH
  /-- `LD C,L` (R101) -/
  | ldCL
  /-- `LD C,(HL)` (R103) -/
  | ldCIndHL
  /-- `LD C,A` (R101) -/
  | ldCA
  /-- `LD D,B` (R101) -/
  | ldDB
  /-- `LD D,C` (R101) -/
  | ldDC
  /-- `LD D,D` (R101) -/
  | ldDD
  /-- `LD D,E` (R101) -/
  | ldDE
  /-- `LD D,H` (R101) -/
  | ldDH
  /-- `LD D,L` (R101) -/
  | ldDL
  /-- `LD D,(HL)` (R103) -/
  | ldDIndHL
  /-- `LD D,A` (R101) -/
  | ldDA
  /-- `LD E,B` (R101) -/
  | ldEB
  /-- `LD E,C` (R101) -/
  | ldEC
  /-- `LD E,D` (R101) -/
  | ldED
  /-- `LD E,E` (R101) -/
  | ldEE
  /-- `LD E,H` (R101) -/
  | ldEH
  /-- `LD E,L` (R101) -/
  | ldEL
  /-- `LD E,(HL)` (R103) -/
  | ldEIndHL
  /-- `LD E,A` (R101) -/
  | ldEA
  /-- `LD H,B` (R101) -/
  | ldHB
  /-- `LD H,C` (R101) -/
  | ldHC
  /-- `LD H,D` (R101) -/
  | ldHD
  /-- `LD H,E` (R101) -/
  | ldHE
  /-- `LD H,H` (R101) -/
  | ldHH
  /-- `LD H,L` (R101) -/
  | ldHL
  /-- `LD H,(HL)` (R103) -/
  | ldHIndHL
  /-- `LD H,A` (R101) -/
  | ldHA
  /-- `LD L,B` (R101) -/
  | ldLB
  /-- `LD L,C` (R101) -/
  | ldLC
  /-- `LD L,D` (R101) -/
  | ldLD
  /-- `LD L,E` (R101) -/
  | ldLE
  /-- `LD L,H` (R101) -/
  | ldLH
  /-- `LD L,L` (R101) -/
  | ldLL
  /-- `LD L,(HL)` (R103) -/
  | ldLIndHL
  /-- `LD L,A` (R101) -/
  | ldLA
  /-- `LD (HL),B` (R104) -/
  | ldIndHLB
  /-- `LD (HL),C` (R104) -/
  | ldIndHLC
  /-- `LD (HL),D` (R104) -/
  | ldIndHLD
  /-- `LD (HL),E` (R104) -/
  | ldIndHLE
  /-- `LD (HL),H` (R104) -/
  | ldIndHLH
  /-- `LD (HL),L` (R104) -/
  | ldIndHLL
  /-- `HALT` (R253) -/
  | halt
  /-- `LD (HL),A` (R104) -/
  | ldIndHLA
  /-- `LD A,B` (R101) -/
  | ldAB
  /-- `LD A,C` (R101) -/
  | ldAC
  /-- `LD A,D` (R101) -/
  | ldAD
  /-- `LD A,E` (R101) -/
  | ldAE
  /-- `LD A,H` (R101) -/
  | ldAH
  /-- `LD A,L` (R101) -/
  | ldAL
  /-- `LD A,(HL)` (R103) -/
  | ldAIndHL
  /-- `LD A,A` (R101) -/
  | ldAA
  /-- `ADD A,B` (R153) -/
  | addAB
  /-- `ADD A,C` (R153) -/
  | addAC
  /-- `ADD A,D` (R153) -/
  | addAD
  /-- `ADD A,E` (R153) -/
  | addAE
  /-- `ADD A,H` (R153) -/
  | addAH
  /-- `ADD A,L` (R153) -/
  | addAL
  /-- `ADD A,(HL)` (R154) -/
  | addAIndHL
  /-- `ADD A,A` (R153) -/
  | addAA
  /-- `ADC A,B` (R156) -/
  | adcAB
  /-- `ADC A,C` (R156) -/
  | adcAC
  /-- `ADC A,D` (R156) -/
  | adcAD
  /-- `ADC A,E` (R156) -/
  | adcAE
  /-- `ADC A,H` (R156) -/
  | adcAH
  /-- `ADC A,L` (R156) -/
  | adcAL
  /-- `ADC A,(HL)` (R157) -/
  | adcAIndHL
  /-- `ADC A,A` (R156) -/
  | adcAA
  /-- `SUB B` (R159) -/
  | subB
  /-- `SUB C` (R159) -/
  | subC
  /-- `SUB D` (R159) -/
  | subD
  /-- `SUB E` (R159) -/
  | subE
  /-- `SUB H` (R159) -/
  | subH
  /-- `SUB L` (R159) -/
  | subL
  /-- `SUB (HL)` (R160) -/
  | subIndHL
  /-- `SUB A` (R159) -/
  | subA
  /-- `SBC A,B` (R162) -/
  | sbcAB
  /-- `SBC A,C` (R162) -/
  | sbcAC
  /-- `SBC A,D` (R162) -/
  | sbcAD
  /-- `SBC A,E` (R162) -/
  | sbcAE
  /-- `SBC A,H` (R162) -/
  | sbcAH
  /-- `SBC A,L` (R162) -/
  | sbcAL
  /-- `SBC A,(HL)` (R163) -/
  | sbcAIndHL
  /-- `SBC A,A` (R162) -/
  | sbcAA
  /-- `AND B` (R165) -/
  | andB
  /-- `AND C` (R165) -/
  | andC
  /-- `AND D` (R165) -/
  | andD
  /-- `AND E` (R165) -/
  | andE
  /-- `AND H` (R165) -/
  | andH
  /-- `AND L` (R165) -/
  | andL
  /-- `AND (HL)` (R166) -/
  | andIndHL
  /-- `AND A` (R165) -/
  | andA
  /-- `XOR B` (R168) -/
  | xorB
  /-- `XOR C` (R168) -/
  | xorC
  /-- `XOR D` (R168) -/
  | xorD
  /-- `XOR E` (R168) -/
  | xorE
  /-- `XOR H` (R168) -/
  | xorH
  /-- `XOR L` (R168) -/
  | xorL
  /-- `XOR (HL)` (R169) -/
  | xorIndHL
  /-- `XOR A` (R168) -/
  | xorA
  /-- `OR B` (R171) -/
  | orB
  /-- `OR C` (R171) -/
  | orC
  /-- `OR D` (R171) -/
  | orD
  /-- `OR E` (R171) -/
  | orE
  /-- `OR H` (R171) -/
  | orH
  /-- `OR L` (R171) -/
  | orL
  /-- `OR (HL)` (R172) -/
  | orIndHL
  /-- `OR A` (R171) -/
  | orA
  /-- `CP B` (R174) -/
  | cpB
  /-- `CP C` (R174) -/
  | cpC
  /-- `CP D` (R174) -/
  | cpD
  /-- `CP E` (R174) -/
  | cpE
  /-- `CP H` (R174) -/
  | cpH
  /-- `CP L` (R174) -/
  | cpL
  /-- `CP (HL)` (R175) -/
  | cpIndHL
  /-- `CP A` (R174) -/
  | cpA
  /-- `RET NZ` (R239) -/
  | retNZ
  /-- `POP BC` (R135) -/
  | popBC
  /-- `PUSH BC` (R134) -/
  | pushBC
  /-- `RST 00H` (R241) -/
  | rst00
  /-- `RET Z` (R239) -/
  | retZ
  /-- `RET` (R238) -/
  | ret
  /-- `RST 08H` (R241) -/
  | rst08
  /-- `RET NC` (R239) -/
  | retNC
  /-- `POP DE` (R135) -/
  | popDE
  /-- `UNDEFINED_D3` (R255) -/
  | undefinedD3
  /-- `PUSH DE` (R134) -/
  | pushDE
  /-- `RST 10H` (R241) -/
  | rst10
  /-- `RET C` (R239) -/
  | retC
  /-- `RETI` (R240) -/
  | reti
  /-- `UNDEFINED_DB` (R255) -/
  | undefinedDB
  /-- `UNDEFINED_DD` (R255) -/
  | undefinedDD
  /-- `RST 18H` (R241) -/
  | rst18
  /-- `POP HL` (R135) -/
  | popHL
  /-- `LD (C),A` (R115) -/
  | ldIndCA
  /-- `UNDEFINED_E3` (R255) -/
  | undefinedE3
  /-- `UNDEFINED_E4` (R255) -/
  | undefinedE4
  /-- `PUSH HL` (R134) -/
  | pushHL
  /-- `RST 20H` (R241) -/
  | rst20
  /-- `JP HL` (R233) -/
  | jpHL
  /-- `UNDEFINED_EB` (R255) -/
  | undefinedEB
  /-- `UNDEFINED_EC` (R255) -/
  | undefinedEC
  /-- `UNDEFINED_ED` (R255) -/
  | undefinedED
  /-- `RST 28H` (R241) -/
  | rst28
  /-- `POP AF` (R136) -/
  | popAF
  /-- `LD A,(C)` (R114) -/
  | ldAIndC
  /-- `DI` (R251) -/
  | di
  /-- `UNDEFINED_F4` (R255) -/
  | undefinedF4
  /-- `PUSH AF` (R134) -/
  | pushAF
  /-- `RST 30H` (R241) -/
  | rst30
  /-- `LD SP,HL` (R132) -/
  | ldSPHL
  /-- `EI` (R252) -/
  | ei
  /-- `UNDEFINED_FC` (R255) -/
  | undefinedFC
  /-- `UNDEFINED_FD` (R255) -/
  | undefinedFD
  /-- `RST 38H` (R241) -/
  | rst38
  /-- `RLC B` (R205) -/
  | rlcB
  /-- `RLC C` (R205) -/
  | rlcC
  /-- `RLC D` (R205) -/
  | rlcD
  /-- `RLC E` (R205) -/
  | rlcE
  /-- `RLC H` (R205) -/
  | rlcH
  /-- `RLC L` (R205) -/
  | rlcL
  /-- `RLC (HL)` (R206) -/
  | rlcIndHL
  /-- `RLC A` (R205) -/
  | rlcA
  /-- `RRC B` (R207) -/
  | rrcB
  /-- `RRC C` (R207) -/
  | rrcC
  /-- `RRC D` (R207) -/
  | rrcD
  /-- `RRC E` (R207) -/
  | rrcE
  /-- `RRC H` (R207) -/
  | rrcH
  /-- `RRC L` (R207) -/
  | rrcL
  /-- `RRC (HL)` (R208) -/
  | rrcIndHL
  /-- `RRC A` (R207) -/
  | rrcA
  /-- `RL B` (R209) -/
  | rlB
  /-- `RL C` (R209) -/
  | rlC
  /-- `RL D` (R209) -/
  | rlD
  /-- `RL E` (R209) -/
  | rlE
  /-- `RL H` (R209) -/
  | rlH
  /-- `RL L` (R209) -/
  | rlL
  /-- `RL (HL)` (R210) -/
  | rlIndHL
  /-- `RL A` (R209) -/
  | rlA
  /-- `RR B` (R211) -/
  | rrB
  /-- `RR C` (R211) -/
  | rrC
  /-- `RR D` (R211) -/
  | rrD
  /-- `RR E` (R211) -/
  | rrE
  /-- `RR H` (R211) -/
  | rrH
  /-- `RR L` (R211) -/
  | rrL
  /-- `RR (HL)` (R212) -/
  | rrIndHL
  /-- `RR A` (R211) -/
  | rrA
  /-- `SLA B` (R213) -/
  | slaB
  /-- `SLA C` (R213) -/
  | slaC
  /-- `SLA D` (R213) -/
  | slaD
  /-- `SLA E` (R213) -/
  | slaE
  /-- `SLA H` (R213) -/
  | slaH
  /-- `SLA L` (R213) -/
  | slaL
  /-- `SLA (HL)` (R214) -/
  | slaIndHL
  /-- `SLA A` (R213) -/
  | slaA
  /-- `SRA B` (R215) -/
  | sraB
  /-- `SRA C` (R215) -/
  | sraC
  /-- `SRA D` (R215) -/
  | sraD
  /-- `SRA E` (R215) -/
  | sraE
  /-- `SRA H` (R215) -/
  | sraH
  /-- `SRA L` (R215) -/
  | sraL
  /-- `SRA (HL)` (R216) -/
  | sraIndHL
  /-- `SRA A` (R215) -/
  | sraA
  /-- `SWAP B` (R217) -/
  | swapB
  /-- `SWAP C` (R217) -/
  | swapC
  /-- `SWAP D` (R217) -/
  | swapD
  /-- `SWAP E` (R217) -/
  | swapE
  /-- `SWAP H` (R217) -/
  | swapH
  /-- `SWAP L` (R217) -/
  | swapL
  /-- `SWAP (HL)` (R218) -/
  | swapIndHL
  /-- `SWAP A` (R217) -/
  | swapA
  /-- `SRL B` (R219) -/
  | srlB
  /-- `SRL C` (R219) -/
  | srlC
  /-- `SRL D` (R219) -/
  | srlD
  /-- `SRL E` (R219) -/
  | srlE
  /-- `SRL H` (R219) -/
  | srlH
  /-- `SRL L` (R219) -/
  | srlL
  /-- `SRL (HL)` (R220) -/
  | srlIndHL
  /-- `SRL A` (R219) -/
  | srlA
deriving DecidableEq, Repr

end Sys2Proof
end

