-- ==== Sys2Proof/WellFormed.lean ====
section
/-! DEFINITION. Well-formed instructions. The arguments' types bound every operand (a bit number is a `BitVec 3`), so one
check is left: the 0xCB byte is not an instruction by itself (spec/46_misc.md R256). -/

namespace Sys2Proof

/-- `PREFIX CB` is no instruction of the reference set, in which all 256 second bytes are implemented (R12, R92, R256). A
decoder with a smaller `IMPL_CB` answers it for a second byte outside the set, so that the fault reports both bytes. -/
def Instr.wf : Instr → Bool
  | .prefixCb _ => false
  | _ => true

end Sys2Proof
end

