-- ==== Sys2Proof/Decode.lean ====
section
/-! DEFINITION. Decoding (spec/30_encoding.md): the fields of R85 to R89, the primary map of R91 and the secondary map of
R92 read through those fields, and the encoder, a table written from the opcode bytes of R91 and R92 row by row. -/

namespace Sys2Proof

/-! ### Fields -/

/-- The seven 8-bit registers that a 3-bit operand code can name (R85). -/
inductive Reg8 where
  | b
  | c
  | d
  | e
  | h
  | l
  | a
deriving DecidableEq, Repr

/-- An 8-bit operand: a register, or the byte in memory at HL (R85, R88). -/
inductive Operand8 where
  | reg (r : Reg8)
  | hlMem
deriving DecidableEq, Repr

/-- A pair named by `ss` (R86). -/
inductive Pair where
  | bc
  | de
  | hl
  | sp
deriving DecidableEq, Repr

/-- A pair named by `qq` (R87). -/
inductive StackPair where
  | bc
  | de
  | hl
  | af
deriving DecidableEq, Repr

/-- A condition named by `cc` (R89, R230). -/
inductive Cond where
  | nz
  | z
  | nc
  | c
deriving DecidableEq, Repr

/-- An ALU operation named by `aaa` (R89). -/
inductive AluOp where
  | add
  | adc
  | sub
  | sbc
  | and
  | xor
  | or
  | cp
deriving DecidableEq, Repr

/-- A rotate or shift named by `ooo` (R89). -/
inductive RotOp where
  | rlc
  | rrc
  | rl
  | rr
  | sla
  | sra
  | swap
  | srl
deriving DecidableEq, Repr

/-- `reg8(code)` with code 6 the byte at HL (R85). -/
def operand8 (k : BitVec 3) : Operand8 :=
  match k.toNat with
  | 0 => .reg .b
  | 1 => .reg .c
  | 2 => .reg .d
  | 3 => .reg .e
  | 4 => .reg .h
  | 5 => .reg .l
  | 6 => .hlMem
  | _ => .reg .a

/-- `reg16(ss)`, the pair in bits 2:1 of the middle field (R86). -/
def pairOf (mid : BitVec 3) : Pair :=
  match mid.toNat / 2 with
  | 0 => .bc
  | 1 => .de
  | 2 => .hl
  | _ => .sp

/-- `reg16stk(qq)`, the pair in bits 2:1 of the middle field (R87). -/
def stackPairOf (mid : BitVec 3) : StackPair :=
  match mid.toNat / 2 with
  | 0 => .bc
  | 1 => .de
  | 2 => .hl
  | _ => .af

/-- The condition in the low two bits of the middle field (R89). -/
def condOf (mid : BitVec 3) : Cond :=
  match mid.toNat % 4 with
  | 0 => .nz
  | 1 => .z
  | 2 => .nc
  | _ => .c

/-- The ALU operation `aaa` (R89). -/
def aluOf (mid : BitVec 3) : AluOp :=
  match mid.toNat with
  | 0 => .add
  | 1 => .adc
  | 2 => .sub
  | 3 => .sbc
  | 4 => .and
  | 5 => .xor
  | 6 => .or
  | _ => .cp

/-- The rotate or shift `ooo` (R89). -/
def rotOf (mid : BitVec 3) : RotOp :=
  match mid.toNat with
  | 0 => .rlc
  | 1 => .rrc
  | 2 => .rl
  | 3 => .rr
  | 4 => .sla
  | 5 => .sra
  | 6 => .swap
  | _ => .srl

/-! ### The instruction a family has for given operands -/

/-- The block `01 ddd sss`: `LD` between two 8-bit operands. The cell of (HL) and (HL) is HALT (R101, R103, R104, R253). -/
def ldInstr : Operand8 → Operand8 → Instr
  | .reg .b, .reg .b => .ldBB
  | .reg .b, .reg .c => .ldBC
  | .reg .b, .reg .d => .ldBD
  | .reg .b, .reg .e => .ldBE
  | .reg .b, .reg .h => .ldBH
  | .reg .b, .reg .l => .ldBL
  | .reg .b, .hlMem => .ldBIndHL
  | .reg .b, .reg .a => .ldBA
  | .reg .c, .reg .b => .ldCB
  | .reg .c, .reg .c => .ldCC
  | .reg .c, .reg .d => .ldCD
  | .reg .c, .reg .e => .ldCE
  | .reg .c, .reg .h => .ldCH
  | .reg .c, .reg .l => .ldCL
  | .reg .c, .hlMem => .ldCIndHL
  | .reg .c, .reg .a => .ldCA
  | .reg .d, .reg .b => .ldDB
  | .reg .d, .reg .c => .ldDC
  | .reg .d, .reg .d => .ldDD
  | .reg .d, .reg .e => .ldDE
  | .reg .d, .reg .h => .ldDH
  | .reg .d, .reg .l => .ldDL
  | .reg .d, .hlMem => .ldDIndHL
  | .reg .d, .reg .a => .ldDA
  | .reg .e, .reg .b => .ldEB
  | .reg .e, .reg .c => .ldEC
  | .reg .e, .reg .d => .ldED
  | .reg .e, .reg .e => .ldEE
  | .reg .e, .reg .h => .ldEH
  | .reg .e, .reg .l => .ldEL
  | .reg .e, .hlMem => .ldEIndHL
  | .reg .e, .reg .a => .ldEA
  | .reg .h, .reg .b => .ldHB
  | .reg .h, .reg .c => .ldHC
  | .reg .h, .reg .d => .ldHD
  | .reg .h, .reg .e => .ldHE
  | .reg .h, .reg .h => .ldHH
  | .reg .h, .reg .l => .ldHL
  | .reg .h, .hlMem => .ldHIndHL
  | .reg .h, .reg .a => .ldHA
  | .reg .l, .reg .b => .ldLB
  | .reg .l, .reg .c => .ldLC
  | .reg .l, .reg .d => .ldLD
  | .reg .l, .reg .e => .ldLE
  | .reg .l, .reg .h => .ldLH
  | .reg .l, .reg .l => .ldLL
  | .reg .l, .hlMem => .ldLIndHL
  | .reg .l, .reg .a => .ldLA
  | .hlMem, .reg .b => .ldIndHLB
  | .hlMem, .reg .c => .ldIndHLC
  | .hlMem, .reg .d => .ldIndHLD
  | .hlMem, .reg .e => .ldIndHLE
  | .hlMem, .reg .h => .ldIndHLH
  | .hlMem, .reg .l => .ldIndHLL
  | .hlMem, .hlMem => .halt
  | .hlMem, .reg .a => .ldIndHLA
  | .reg .a, .reg .b => .ldAB
  | .reg .a, .reg .c => .ldAC
  | .reg .a, .reg .d => .ldAD
  | .reg .a, .reg .e => .ldAE
  | .reg .a, .reg .h => .ldAH
  | .reg .a, .reg .l => .ldAL
  | .reg .a, .hlMem => .ldAIndHL
  | .reg .a, .reg .a => .ldAA

/-- `00 ddd 110`: an immediate byte to an 8-bit operand (R102, R105). -/
def ldImmInstr : Operand8 → Byte → Instr
  | .reg .b, v => .ldBD8 v
  | .reg .c, v => .ldCD8 v
  | .reg .d, v => .ldDD8 v
  | .reg .e, v => .ldED8 v
  | .reg .h, v => .ldHD8 v
  | .reg .l, v => .ldLD8 v
  | .hlMem, v => .ldIndHLD8 v
  | .reg .a, v => .ldAD8 v

/-- `00 ddd 100`: 8-bit increment (R177, R178). -/
def incInstr : Operand8 → Instr
  | .reg .b => .incB
  | .reg .c => .incC
  | .reg .d => .incD
  | .reg .e => .incE
  | .reg .h => .incH
  | .reg .l => .incL
  | .hlMem => .incIndHL
  | .reg .a => .incA

/-- `00 ddd 101`: 8-bit decrement (R179, R180). -/
def decInstr : Operand8 → Instr
  | .reg .b => .decB
  | .reg .c => .decC
  | .reg .d => .decD
  | .reg .e => .decE
  | .reg .h => .decH
  | .reg .l => .decL
  | .hlMem => .decIndHL
  | .reg .a => .decA

/-- The block `10 aaa sss`: an ALU operation of A with an 8-bit operand (R153 to R176). -/
def aluInstr : AluOp → Operand8 → Instr
  | .add, .reg .b => .addAB
  | .add, .reg .c => .addAC
  | .add, .reg .d => .addAD
  | .add, .reg .e => .addAE
  | .add, .reg .h => .addAH
  | .add, .reg .l => .addAL
  | .add, .hlMem => .addAIndHL
  | .add, .reg .a => .addAA
  | .adc, .reg .b => .adcAB
  | .adc, .reg .c => .adcAC
  | .adc, .reg .d => .adcAD
  | .adc, .reg .e => .adcAE
  | .adc, .reg .h => .adcAH
  | .adc, .reg .l => .adcAL
  | .adc, .hlMem => .adcAIndHL
  | .adc, .reg .a => .adcAA
  | .sub, .reg .b => .subB
  | .sub, .reg .c => .subC
  | .sub, .reg .d => .subD
  | .sub, .reg .e => .subE
  | .sub, .reg .h => .subH
  | .sub, .reg .l => .subL
  | .sub, .hlMem => .subIndHL
  | .sub, .reg .a => .subA
  | .sbc, .reg .b => .sbcAB
  | .sbc, .reg .c => .sbcAC
  | .sbc, .reg .d => .sbcAD
  | .sbc, .reg .e => .sbcAE
  | .sbc, .reg .h => .sbcAH
  | .sbc, .reg .l => .sbcAL
  | .sbc, .hlMem => .sbcAIndHL
  | .sbc, .reg .a => .sbcAA
  | .and, .reg .b => .andB
  | .and, .reg .c => .andC
  | .and, .reg .d => .andD
  | .and, .reg .e => .andE
  | .and, .reg .h => .andH
  | .and, .reg .l => .andL
  | .and, .hlMem => .andIndHL
  | .and, .reg .a => .andA
  | .xor, .reg .b => .xorB
  | .xor, .reg .c => .xorC
  | .xor, .reg .d => .xorD
  | .xor, .reg .e => .xorE
  | .xor, .reg .h => .xorH
  | .xor, .reg .l => .xorL
  | .xor, .hlMem => .xorIndHL
  | .xor, .reg .a => .xorA
  | .or, .reg .b => .orB
  | .or, .reg .c => .orC
  | .or, .reg .d => .orD
  | .or, .reg .e => .orE
  | .or, .reg .h => .orH
  | .or, .reg .l => .orL
  | .or, .hlMem => .orIndHL
  | .or, .reg .a => .orA
  | .cp, .reg .b => .cpB
  | .cp, .reg .c => .cpC
  | .cp, .reg .d => .cpD
  | .cp, .reg .e => .cpE
  | .cp, .reg .h => .cpH
  | .cp, .reg .l => .cpL
  | .cp, .hlMem => .cpIndHL
  | .cp, .reg .a => .cpA

/-- `11 aaa 110`: an ALU operation of A with an immediate byte (R155 to R176). -/
def aluImmInstr : AluOp → Byte → Instr
  | .add, v => .addAD8 v
  | .adc, v => .adcAD8 v
  | .sub, v => .subD8 v
  | .sbc, v => .sbcAD8 v
  | .and, v => .andD8 v
  | .xor, v => .xorD8 v
  | .or, v => .orD8 v
  | .cp, v => .cpD8 v

/-- `00 ss 0001`: an immediate word to a pair (R130). -/
def ldPairInstr : Pair → Word → Instr
  | .bc, v => .ldBCD16 v
  | .de, v => .ldDED16 v
  | .hl, v => .ldHLD16 v
  | .sp, v => .ldSPD16 v

/-- `00 ss 0011` (R190). -/
def incPairInstr : Pair → Instr
  | .bc => .incBC
  | .de => .incDE
  | .hl => .incHL
  | .sp => .incSP

/-- `00 ss 1011` (R191). -/
def decPairInstr : Pair → Instr
  | .bc => .decBC
  | .de => .decDE
  | .hl => .decHL
  | .sp => .decSP

/-- `00 ss 1001` (R192). -/
def addHLInstr : Pair → Instr
  | .bc => .addHLBC
  | .de => .addHLDE
  | .hl => .addHLHL
  | .sp => .addHLSP

/-- `11 qq 0101` (R134). -/
def pushInstr : StackPair → Instr
  | .bc => .pushBC
  | .de => .pushDE
  | .hl => .pushHL
  | .af => .pushAF

/-- `11 qq 0001` (R135, R136). -/
def popInstr : StackPair → Instr
  | .bc => .popBC
  | .de => .popDE
  | .hl => .popHL
  | .af => .popAF

/-- `001 cc 000` (R235). -/
def jrInstr : Cond → Byte → Instr
  | .nz, e => .jrNZE8 e
  | .z, e => .jrZE8 e
  | .nc, e => .jrNCE8 e
  | .c, e => .jrCE8 e

/-- `110 cc 010` (R232). -/
def jpInstr : Cond → Word → Instr
  | .nz, t => .jpNZA16 t
  | .z, t => .jpZA16 t
  | .nc, t => .jpNCA16 t
  | .c, t => .jpCA16 t

/-- `110 cc 100` (R237). -/
def callInstr : Cond → Word → Instr
  | .nz, t => .callNZA16 t
  | .z, t => .callZA16 t
  | .nc, t => .callNCA16 t
  | .c, t => .callCA16 t

/-- `110 cc 000` (R239). -/
def retInstr : Cond → Instr
  | .nz => .retNZ
  | .z => .retZ
  | .nc => .retNC
  | .c => .retC

/-- `11 ttt 111`: restart at ttt * 8 (R241). -/
def rstInstr (ttt : BitVec 3) : Instr :=
  match ttt.toNat with
  | 0 => .rst00
  | 1 => .rst08
  | 2 => .rst10
  | 3 => .rst18
  | 4 => .rst20
  | 5 => .rst28
  | 6 => .rst30
  | _ => .rst38

/-- CB group 00: a rotate or shift of an 8-bit operand (R205 to R220). -/
def rotateInstr : RotOp → Operand8 → Instr
  | .rlc, .reg .b => .rlcB
  | .rlc, .reg .c => .rlcC
  | .rlc, .reg .d => .rlcD
  | .rlc, .reg .e => .rlcE
  | .rlc, .reg .h => .rlcH
  | .rlc, .reg .l => .rlcL
  | .rlc, .hlMem => .rlcIndHL
  | .rlc, .reg .a => .rlcA
  | .rrc, .reg .b => .rrcB
  | .rrc, .reg .c => .rrcC
  | .rrc, .reg .d => .rrcD
  | .rrc, .reg .e => .rrcE
  | .rrc, .reg .h => .rrcH
  | .rrc, .reg .l => .rrcL
  | .rrc, .hlMem => .rrcIndHL
  | .rrc, .reg .a => .rrcA
  | .rl, .reg .b => .rlB
  | .rl, .reg .c => .rlC
  | .rl, .reg .d => .rlD
  | .rl, .reg .e => .rlE
  | .rl, .reg .h => .rlH
  | .rl, .reg .l => .rlL
  | .rl, .hlMem => .rlIndHL
  | .rl, .reg .a => .rlA
  | .rr, .reg .b => .rrB
  | .rr, .reg .c => .rrC
  | .rr, .reg .d => .rrD
  | .rr, .reg .e => .rrE
  | .rr, .reg .h => .rrH
  | .rr, .reg .l => .rrL
  | .rr, .hlMem => .rrIndHL
  | .rr, .reg .a => .rrA
  | .sla, .reg .b => .slaB
  | .sla, .reg .c => .slaC
  | .sla, .reg .d => .slaD
  | .sla, .reg .e => .slaE
  | .sla, .reg .h => .slaH
  | .sla, .reg .l => .slaL
  | .sla, .hlMem => .slaIndHL
  | .sla, .reg .a => .slaA
  | .sra, .reg .b => .sraB
  | .sra, .reg .c => .sraC
  | .sra, .reg .d => .sraD
  | .sra, .reg .e => .sraE
  | .sra, .reg .h => .sraH
  | .sra, .reg .l => .sraL
  | .sra, .hlMem => .sraIndHL
  | .sra, .reg .a => .sraA
  | .swap, .reg .b => .swapB
  | .swap, .reg .c => .swapC
  | .swap, .reg .d => .swapD
  | .swap, .reg .e => .swapE
  | .swap, .reg .h => .swapH
  | .swap, .reg .l => .swapL
  | .swap, .hlMem => .swapIndHL
  | .swap, .reg .a => .swapA
  | .srl, .reg .b => .srlB
  | .srl, .reg .c => .srlC
  | .srl, .reg .d => .srlD
  | .srl, .reg .e => .srlE
  | .srl, .reg .h => .srlH
  | .srl, .reg .l => .srlL
  | .srl, .hlMem => .srlIndHL
  | .srl, .reg .a => .srlA

/-- CB group 01: test a bit (R221, R222). -/
def bitInstr : BitVec 3 → Operand8 → Instr
  | b, .reg .b => .bitB b
  | b, .reg .c => .bitC b
  | b, .reg .d => .bitD b
  | b, .reg .e => .bitE b
  | b, .reg .h => .bitH b
  | b, .reg .l => .bitL b
  | b, .hlMem => .bitIndHL b
  | b, .reg .a => .bitA b

/-- CB group 10: clear a bit (R223, R224). -/
def resInstr : BitVec 3 → Operand8 → Instr
  | b, .reg .b => .resB b
  | b, .reg .c => .resC b
  | b, .reg .d => .resD b
  | b, .reg .e => .resE b
  | b, .reg .h => .resH b
  | b, .reg .l => .resL b
  | b, .hlMem => .resIndHL b
  | b, .reg .a => .resA b

/-- CB group 11: set a bit (R225, R226). -/
def setInstr : BitVec 3 → Operand8 → Instr
  | b, .reg .b => .setB b
  | b, .reg .c => .setC b
  | b, .reg .d => .setD b
  | b, .reg .e => .setE b
  | b, .reg .h => .setH b
  | b, .reg .l => .setL b
  | b, .hlMem => .setIndHL b
  | b, .reg .a => .setA b

/-! ### The maps -/

/-- What follows a primary byte (R83, R90): nothing, an immediate byte, an immediate word, the secondary page of R92, or
the one byte the assembler writes after STOP and the machine never fetches (R254). -/
inductive Shape where
  | plain (i : Instr)
  | byteImm (f : Byte → Instr)
  | wordImm (f : Word → Instr)
  | cbPage
  | padded (i : Instr)

/-- Rows 0x to 3x of the primary map (R91), by the middle and low fields. -/
def primaryLow (mid low : BitVec 3) : Shape :=
  match low.toNat with
  | 0 =>
    match mid.toNat with
    | 0 => .plain .nop
    | 1 => .wordImm .ldIndA16SP
    | 2 => .padded .stop
    | 3 => .byteImm .jrE8
    | _ => .byteImm (jrInstr (condOf mid))
  | 1 => if mid.toNat % 2 = 0 then .wordImm (ldPairInstr (pairOf mid)) else .plain (addHLInstr (pairOf mid))
  | 2 =>
    match mid.toNat with
    | 0 => .plain .ldIndBCA
    | 1 => .plain .ldAIndBC
    | 2 => .plain .ldIndDEA
    | 3 => .plain .ldAIndDE
    | 4 => .plain .ldIndHLIncA
    | 5 => .plain .ldAIndHLInc
    | 6 => .plain .ldIndHLDecA
    | _ => .plain .ldAIndHLDec
  | 3 => if mid.toNat % 2 = 0 then .plain (incPairInstr (pairOf mid)) else .plain (decPairInstr (pairOf mid))
  | 4 => .plain (incInstr (operand8 mid))
  | 5 => .plain (decInstr (operand8 mid))
  | 6 => .byteImm (ldImmInstr (operand8 mid))
  | _ =>
    match mid.toNat with
    | 0 => .plain .rlca
    | 1 => .plain .rrca
    | 2 => .plain .rla
    | 3 => .plain .rra
    | 4 => .plain .daa
    | 5 => .plain .cpl
    | 6 => .plain .scf
    | _ => .plain .ccf

/-- Rows Cx to Fx of the primary map (R91), by the middle and low fields; the undefined bytes are those of R94. -/
def primaryHigh (mid low : BitVec 3) : Shape :=
  match low.toNat with
  | 0 =>
    match mid.toNat with
    | 4 => .byteImm .ldhIndA8A
    | 5 => .byteImm .addSPE8
    | 6 => .byteImm .ldhAIndA8
    | 7 => .byteImm .ldHLSPE8
    | _ => .plain (retInstr (condOf mid))
  | 1 =>
    match mid.toNat with
    | 1 => .plain .ret
    | 3 => .plain .reti
    | 5 => .plain .jpHL
    | 7 => .plain .ldSPHL
    | _ => .plain (popInstr (stackPairOf mid))
  | 2 =>
    match mid.toNat with
    | 4 => .plain .ldIndCA
    | 5 => .wordImm .ldIndA16A
    | 6 => .plain .ldAIndC
    | 7 => .wordImm .ldAIndA16
    | _ => .wordImm (jpInstr (condOf mid))
  | 3 =>
    match mid.toNat with
    | 0 => .wordImm .jpA16
    | 1 => .cbPage
    | 2 => .plain .undefinedD3
    | 3 => .plain .undefinedDB
    | 4 => .plain .undefinedE3
    | 5 => .plain .undefinedEB
    | 6 => .plain .di
    | _ => .plain .ei
  | 4 =>
    match mid.toNat with
    | 4 => .plain .undefinedE4
    | 5 => .plain .undefinedEC
    | 6 => .plain .undefinedF4
    | 7 => .plain .undefinedFC
    | _ => .wordImm (callInstr (condOf mid))
  | 5 =>
    match mid.toNat with
    | 1 => .wordImm .callA16
    | 3 => .plain .undefinedDD
    | 5 => .plain .undefinedED
    | 7 => .plain .undefinedFD
    | _ => .plain (pushInstr (stackPairOf mid))
  | 6 => .byteImm (aluImmInstr (aluOf mid))
  | _ => .plain (rstInstr mid)

/-- The primary map (R91). -/
def primary (op : Byte) : Shape :=
  match (fieldGroup op).toNat with
  | 0 => primaryLow (fieldMid op) (fieldLow op)
  | 1 => .plain (ldInstr (operand8 (fieldMid op)) (operand8 (fieldLow op)))
  | 2 => .plain (aluInstr (aluOf (fieldMid op)) (operand8 (fieldLow op)))
  | _ => primaryHigh (fieldMid op) (fieldLow op)

/-- The secondary map (R92). -/
def secondary (op2 : Byte) : Instr :=
  match (fieldGroup op2).toNat with
  | 0 => rotateInstr (rotOf (fieldMid op2)) (operand8 (fieldLow op2))
  | 1 => bitInstr (fieldMid op2) (operand8 (fieldLow op2))
  | 2 => resInstr (fieldMid op2) (operand8 (fieldLow op2))
  | _ => setInstr (fieldMid op2) (operand8 (fieldLow op2))

/-! ### The decoder -/

/-- Why bytes are no instruction. -/
inductive DecodeError where
  /-- no byte is there -/
  | noOpcode
  /-- the 0xCB byte is the last one -/
  | noSecondByte
  /-- an immediate byte is missing after this primary byte -/
  | missingImmediate (op : Byte)
  /-- a defined primary byte outside this interpreter's `IMPL_PRIMARY` (R4, R82) -/
  | notImplemented (op : Byte)
deriving DecidableEq, Repr

/-- Decode the instruction at the head of a byte sequence and give the bytes after it. The 0xCB byte is looked at first
(R80, R256), then `IMPL_PRIMARY` before any immediate (R82). A second byte outside `IMPL_CB` is `prefixCb`. -/
def decodeWith (k : Config.Interpreter) : List Byte → Except DecodeError (Instr × List Byte)
  | [] => .error .noOpcode
  | op :: rest =>
    match primary op with
    | .cbPage =>
      match rest with
      | [] => .error .noSecondByte
      | op2 :: rest => if k.leftOutCb.contains op2 then .ok (.prefixCb op2, rest) else .ok (secondary op2, rest)
    | .padded i => .ok (i, rest.drop 1)
    | .plain i => if k.leftOutPrimary.contains op then .error (.notImplemented op) else .ok (i, rest)
    | .byteImm f =>
      if k.leftOutPrimary.contains op then .error (.notImplemented op)
      else match rest with
        | v :: rest => .ok (f v, rest)
        | _ => .error (.missingImmediate op)
    | .wordImm f =>
      if k.leftOutPrimary.contains op then .error (.notImplemented op)
      else match rest with
        | lo :: hi :: rest => .ok (f (wordOf hi lo), rest)
        | _ => .error (.missingImmediate op)

/-- The decoder of the reference instruction set (R12). -/
def decode (bytes : List Byte) : Except DecodeError (Instr × List Byte) :=
  decodeWith Config.referenceInterpreter bytes

/-- An instruction's length, read from its first byte alone (R83, R95): the `length` column of spec/opcode_table.json,
with 2 for the CB page. -/
def lengthOf (op : Byte) : Nat :=
  match primary op with
  | .plain _ => 1
  | .byteImm _ => 2
  | .wordImm _ => 3
  | .cbPage => 2
  | .padded _ => 2

/-! ### The encoder -/

/-- The second byte of a single-bit operation: the bit number goes to bits 5:3 (R89). -/
def bitOpcode (base : Byte) (b : BitVec 3) : Byte := base ||| (b.setWidth 8 <<< 3)

/-- The bytes of an instruction (R90 to R92), low byte of a word immediate first (R58). -/
def encode : Instr → List Byte
  | .nop => [0x00]
  | .ldBCD16 v => [0x01, loByte v, hiByte v]
  | .ldIndBCA => [0x02]
  | .incBC => [0x03]
  | .incB => [0x04]
  | .decB => [0x05]
  | .ldBD8 v => [0x06, v]
  | .rlca => [0x07]
  | .ldIndA16SP a => [0x08, loByte a, hiByte a]
  | .addHLBC => [0x09]
  | .ldAIndBC => [0x0A]
  | .decBC => [0x0B]
  | .incC => [0x0C]
  | .decC => [0x0D]
  | .ldCD8 v => [0x0E, v]
  | .rrca => [0x0F]
  | .stop => [0x10, 0x00]
  | .ldDED16 v => [0x11, loByte v, hiByte v]
  | .ldIndDEA => [0x12]
  | .incDE => [0x13]
  | .incD => [0x14]
  | .decD => [0x15]
  | .ldDD8 v => [0x16, v]
  | .rla => [0x17]
  | .jrE8 e => [0x18, e]
  | .addHLDE => [0x19]
  | .ldAIndDE => [0x1A]
  | .decDE => [0x1B]
  | .incE => [0x1C]
  | .decE => [0x1D]
  | .ldED8 v => [0x1E, v]
  | .rra => [0x1F]
  | .jrNZE8 e => [0x20, e]
  | .ldHLD16 v => [0x21, loByte v, hiByte v]
  | .ldIndHLIncA => [0x22]
  | .incHL => [0x23]
  | .incH => [0x24]
  | .decH => [0x25]
  | .ldHD8 v => [0x26, v]
  | .daa => [0x27]
  | .jrZE8 e => [0x28, e]
  | .addHLHL => [0x29]
  | .ldAIndHLInc => [0x2A]
  | .decHL => [0x2B]
  | .incL => [0x2C]
  | .decL => [0x2D]
  | .ldLD8 v => [0x2E, v]
  | .cpl => [0x2F]
  | .jrNCE8 e => [0x30, e]
  | .ldSPD16 v => [0x31, loByte v, hiByte v]
  | .ldIndHLDecA => [0x32]
  | .incSP => [0x33]
  | .incIndHL => [0x34]
  | .decIndHL => [0x35]
  | .ldIndHLD8 v => [0x36, v]
  | .scf => [0x37]
  | .jrCE8 e => [0x38, e]
  | .addHLSP => [0x39]
  | .ldAIndHLDec => [0x3A]
  | .decSP => [0x3B]
  | .incA => [0x3C]
  | .decA => [0x3D]
  | .ldAD8 v => [0x3E, v]
  | .ccf => [0x3F]
  | .ldBB => [0x40]
  | .ldBC => [0x41]
  | .ldBD => [0x42]
  | .ldBE => [0x43]
  | .ldBH => [0x44]
  | .ldBL => [0x45]
  | .ldBIndHL => [0x46]
  | .ldBA => [0x47]
  | .ldCB => [0x48]
  | .ldCC => [0x49]
  | .ldCD => [0x4A]
  | .ldCE => [0x4B]
  | .ldCH => [0x4C]
  | .ldCL => [0x4D]
  | .ldCIndHL => [0x4E]
  | .ldCA => [0x4F]
  | .ldDB => [0x50]
  | .ldDC => [0x51]
  | .ldDD => [0x52]
  | .ldDE => [0x53]
  | .ldDH => [0x54]
  | .ldDL => [0x55]
  | .ldDIndHL => [0x56]
  | .ldDA => [0x57]
  | .ldEB => [0x58]
  | .ldEC => [0x59]
  | .ldED => [0x5A]
  | .ldEE => [0x5B]
  | .ldEH => [0x5C]
  | .ldEL => [0x5D]
  | .ldEIndHL => [0x5E]
  | .ldEA => [0x5F]
  | .ldHB => [0x60]
  | .ldHC => [0x61]
  | .ldHD => [0x62]
  | .ldHE => [0x63]
  | .ldHH => [0x64]
  | .ldHL => [0x65]
  | .ldHIndHL => [0x66]
  | .ldHA => [0x67]
  | .ldLB => [0x68]
  | .ldLC => [0x69]
  | .ldLD => [0x6A]
  | .ldLE => [0x6B]
  | .ldLH => [0x6C]
  | .ldLL => [0x6D]
  | .ldLIndHL => [0x6E]
  | .ldLA => [0x6F]
  | .ldIndHLB => [0x70]
  | .ldIndHLC => [0x71]
  | .ldIndHLD => [0x72]
  | .ldIndHLE => [0x73]
  | .ldIndHLH => [0x74]
  | .ldIndHLL => [0x75]
  | .halt => [0x76]
  | .ldIndHLA => [0x77]
  | .ldAB => [0x78]
  | .ldAC => [0x79]
  | .ldAD => [0x7A]
  | .ldAE => [0x7B]
  | .ldAH => [0x7C]
  | .ldAL => [0x7D]
  | .ldAIndHL => [0x7E]
  | .ldAA => [0x7F]
  | .addAB => [0x80]
  | .addAC => [0x81]
  | .addAD => [0x82]
  | .addAE => [0x83]
  | .addAH => [0x84]
  | .addAL => [0x85]
  | .addAIndHL => [0x86]
  | .addAA => [0x87]
  | .adcAB => [0x88]
  | .adcAC => [0x89]
  | .adcAD => [0x8A]
  | .adcAE => [0x8B]
  | .adcAH => [0x8C]
  | .adcAL => [0x8D]
  | .adcAIndHL => [0x8E]
  | .adcAA => [0x8F]
  | .subB => [0x90]
  | .subC => [0x91]
  | .subD => [0x92]
  | .subE => [0x93]
  | .subH => [0x94]
  | .subL => [0x95]
  | .subIndHL => [0x96]
  | .subA => [0x97]
  | .sbcAB => [0x98]
  | .sbcAC => [0x99]
  | .sbcAD => [0x9A]
  | .sbcAE => [0x9B]
  | .sbcAH => [0x9C]
  | .sbcAL => [0x9D]
  | .sbcAIndHL => [0x9E]
  | .sbcAA => [0x9F]
  | .andB => [0xA0]
  | .andC => [0xA1]
  | .andD => [0xA2]
  | .andE => [0xA3]
  | .andH => [0xA4]
  | .andL => [0xA5]
  | .andIndHL => [0xA6]
  | .andA => [0xA7]
  | .xorB => [0xA8]
  | .xorC => [0xA9]
  | .xorD => [0xAA]
  | .xorE => [0xAB]
  | .xorH => [0xAC]
  | .xorL => [0xAD]
  | .xorIndHL => [0xAE]
  | .xorA => [0xAF]
  | .orB => [0xB0]
  | .orC => [0xB1]
  | .orD => [0xB2]
  | .orE => [0xB3]
  | .orH => [0xB4]
  | .orL => [0xB5]
  | .orIndHL => [0xB6]
  | .orA => [0xB7]
  | .cpB => [0xB8]
  | .cpC => [0xB9]
  | .cpD => [0xBA]
  | .cpE => [0xBB]
  | .cpH => [0xBC]
  | .cpL => [0xBD]
  | .cpIndHL => [0xBE]
  | .cpA => [0xBF]
  | .retNZ => [0xC0]
  | .popBC => [0xC1]
  | .jpNZA16 t => [0xC2, loByte t, hiByte t]
  | .jpA16 t => [0xC3, loByte t, hiByte t]
  | .callNZA16 t => [0xC4, loByte t, hiByte t]
  | .pushBC => [0xC5]
  | .addAD8 v => [0xC6, v]
  | .rst00 => [0xC7]
  | .retZ => [0xC8]
  | .ret => [0xC9]
  | .jpZA16 t => [0xCA, loByte t, hiByte t]
  | .prefixCb op2 => [0xCB, op2]
  | .callZA16 t => [0xCC, loByte t, hiByte t]
  | .callA16 t => [0xCD, loByte t, hiByte t]
  | .adcAD8 v => [0xCE, v]
  | .rst08 => [0xCF]
  | .retNC => [0xD0]
  | .popDE => [0xD1]
  | .jpNCA16 t => [0xD2, loByte t, hiByte t]
  | .undefinedD3 => [0xD3]
  | .callNCA16 t => [0xD4, loByte t, hiByte t]
  | .pushDE => [0xD5]
  | .subD8 v => [0xD6, v]
  | .rst10 => [0xD7]
  | .retC => [0xD8]
  | .reti => [0xD9]
  | .jpCA16 t => [0xDA, loByte t, hiByte t]
  | .undefinedDB => [0xDB]
  | .callCA16 t => [0xDC, loByte t, hiByte t]
  | .undefinedDD => [0xDD]
  | .sbcAD8 v => [0xDE, v]
  | .rst18 => [0xDF]
  | .ldhIndA8A n => [0xE0, n]
  | .popHL => [0xE1]
  | .ldIndCA => [0xE2]
  | .undefinedE3 => [0xE3]
  | .undefinedE4 => [0xE4]
  | .pushHL => [0xE5]
  | .andD8 v => [0xE6, v]
  | .rst20 => [0xE7]
  | .addSPE8 e => [0xE8, e]
  | .jpHL => [0xE9]
  | .ldIndA16A a => [0xEA, loByte a, hiByte a]
  | .undefinedEB => [0xEB]
  | .undefinedEC => [0xEC]
  | .undefinedED => [0xED]
  | .xorD8 v => [0xEE, v]
  | .rst28 => [0xEF]
  | .ldhAIndA8 n => [0xF0, n]
  | .popAF => [0xF1]
  | .ldAIndC => [0xF2]
  | .di => [0xF3]
  | .undefinedF4 => [0xF4]
  | .pushAF => [0xF5]
  | .orD8 v => [0xF6, v]
  | .rst30 => [0xF7]
  | .ldHLSPE8 e => [0xF8, e]
  | .ldSPHL => [0xF9]
  | .ldAIndA16 a => [0xFA, loByte a, hiByte a]
  | .ei => [0xFB]
  | .undefinedFC => [0xFC]
  | .undefinedFD => [0xFD]
  | .cpD8 v => [0xFE, v]
  | .rst38 => [0xFF]
  | .rlcB => [0xCB, 0x00]
  | .rlcC => [0xCB, 0x01]
  | .rlcD => [0xCB, 0x02]
  | .rlcE => [0xCB, 0x03]
  | .rlcH => [0xCB, 0x04]
  | .rlcL => [0xCB, 0x05]
  | .rlcIndHL => [0xCB, 0x06]
  | .rlcA => [0xCB, 0x07]
  | .rrcB => [0xCB, 0x08]
  | .rrcC => [0xCB, 0x09]
  | .rrcD => [0xCB, 0x0A]
  | .rrcE => [0xCB, 0x0B]
  | .rrcH => [0xCB, 0x0C]
  | .rrcL => [0xCB, 0x0D]
  | .rrcIndHL => [0xCB, 0x0E]
  | .rrcA => [0xCB, 0x0F]
  | .rlB => [0xCB, 0x10]
  | .rlC => [0xCB, 0x11]
  | .rlD => [0xCB, 0x12]
  | .rlE => [0xCB, 0x13]
  | .rlH => [0xCB, 0x14]
  | .rlL => [0xCB, 0x15]
  | .rlIndHL => [0xCB, 0x16]
  | .rlA => [0xCB, 0x17]
  | .rrB => [0xCB, 0x18]
  | .rrC => [0xCB, 0x19]
  | .rrD => [0xCB, 0x1A]
  | .rrE => [0xCB, 0x1B]
  | .rrH => [0xCB, 0x1C]
  | .rrL => [0xCB, 0x1D]
  | .rrIndHL => [0xCB, 0x1E]
  | .rrA => [0xCB, 0x1F]
  | .slaB => [0xCB, 0x20]
  | .slaC => [0xCB, 0x21]
  | .slaD => [0xCB, 0x22]
  | .slaE => [0xCB, 0x23]
  | .slaH => [0xCB, 0x24]
  | .slaL => [0xCB, 0x25]
  | .slaIndHL => [0xCB, 0x26]
  | .slaA => [0xCB, 0x27]
  | .sraB => [0xCB, 0x28]
  | .sraC => [0xCB, 0x29]
  | .sraD => [0xCB, 0x2A]
  | .sraE => [0xCB, 0x2B]
  | .sraH => [0xCB, 0x2C]
  | .sraL => [0xCB, 0x2D]
  | .sraIndHL => [0xCB, 0x2E]
  | .sraA => [0xCB, 0x2F]
  | .swapB => [0xCB, 0x30]
  | .swapC => [0xCB, 0x31]
  | .swapD => [0xCB, 0x32]
  | .swapE => [0xCB, 0x33]
  | .swapH => [0xCB, 0x34]
  | .swapL => [0xCB, 0x35]
  | .swapIndHL => [0xCB, 0x36]
  | .swapA => [0xCB, 0x37]
  | .srlB => [0xCB, 0x38]
  | .srlC => [0xCB, 0x39]
  | .srlD => [0xCB, 0x3A]
  | .srlE => [0xCB, 0x3B]
  | .srlH => [0xCB, 0x3C]
  | .srlL => [0xCB, 0x3D]
  | .srlIndHL => [0xCB, 0x3E]
  | .srlA => [0xCB, 0x3F]
  | .bitB b => [0xCB, bitOpcode 0x40 b]
  | .bitC b => [0xCB, bitOpcode 0x41 b]
  | .bitD b => [0xCB, bitOpcode 0x42 b]
  | .bitE b => [0xCB, bitOpcode 0x43 b]
  | .bitH b => [0xCB, bitOpcode 0x44 b]
  | .bitL b => [0xCB, bitOpcode 0x45 b]
  | .bitIndHL b => [0xCB, bitOpcode 0x46 b]
  | .bitA b => [0xCB, bitOpcode 0x47 b]
  | .resB b => [0xCB, bitOpcode 0x80 b]
  | .resC b => [0xCB, bitOpcode 0x81 b]
  | .resD b => [0xCB, bitOpcode 0x82 b]
  | .resE b => [0xCB, bitOpcode 0x83 b]
  | .resH b => [0xCB, bitOpcode 0x84 b]
  | .resL b => [0xCB, bitOpcode 0x85 b]
  | .resIndHL b => [0xCB, bitOpcode 0x86 b]
  | .resA b => [0xCB, bitOpcode 0x87 b]
  | .setB b => [0xCB, bitOpcode 0xC0 b]
  | .setC b => [0xCB, bitOpcode 0xC1 b]
  | .setD b => [0xCB, bitOpcode 0xC2 b]
  | .setE b => [0xCB, bitOpcode 0xC3 b]
  | .setH b => [0xCB, bitOpcode 0xC4 b]
  | .setL b => [0xCB, bitOpcode 0xC5 b]
  | .setIndHL b => [0xCB, bitOpcode 0xC6 b]
  | .setA b => [0xCB, bitOpcode 0xC7 b]

/-! ### The table's words -/

/-- The first three bytes of an instruction whose bits are numbered as spec/opcode_table.json numbers them, zeros above
them. The table's sixteen-bit rows, all of the CB page, write the 0xCB byte in bits 15..8 and the second byte in bits
7..0; every other row gives one byte, in bits 7..0. -/
def tableBytes (nbits w : Nat) : List Byte :=
  let v := w % 2 ^ nbits
  let b0 := BitVec.ofNat 8 v
  let b1 := BitVec.ofNat 8 (v / 256)
  let b2 := BitVec.ofNat 8 (v / 65536)
  if nbits = 16 ∧ b1 = 0xCB then [b1, b0, 0] else [b0, b1, b2]

/-- The instruction the decoder reads from a word of the opcode table. -/
def decodeTableWord (nbits w : Nat) : Option Instr :=
  match decode (tableBytes nbits w) with
  | .ok (i, _) => some i
  | .error _ => none

end Sys2Proof
end

