-- ==== Sys2Proof/Machine/State.lean ====
section
/-! DEFINITION. The machine's state as plain data, the tuple of spec/10_state.md R36, and its value at power-on (R37). -/

namespace Sys2Proof.Machine

/-- The address space (R50): the bytes that differ from zero, as (address, byte) pairs at strictly rising addresses.
An address that is not listed holds 0x00, to which power-on fills the whole space (R310). -/
abbrev Memory := List Host.Cell

/-- The record of an UnimplementedOpcode (R261): the address of the opcode's first byte and the offending byte or
bytes. -/
structure FaultRecord where
  addr  : Word
  bytes : List Byte
deriving DecidableEq, Repr

/-- The machine's state (R36). -/
structure State where
  /-- the accumulator A (R20) -/
  a : Byte
  /-- the flag byte F: Z N H C in bits 7..4, bits 3..0 always zero (R24, R25) -/
  f : Byte
  /-- register B, high half of BC (R20, R21) -/
  b : Byte
  /-- register C, low half of BC (R20, R21) -/
  c : Byte
  /-- register D, high half of DE (R20, R21) -/
  d : Byte
  /-- register E, low half of DE (R20, R21) -/
  e : Byte
  /-- register H, high half of HL (R20, R21) -/
  h : Byte
  /-- register L, low half of HL (R20, R21) -/
  l : Byte
  /-- the stack pointer (R29) -/
  sp : Word
  /-- the program counter (R28) -/
  pc : Word
  /-- the interrupt-master-enable latch, which nothing reads (R30) -/
  ime : Bool
  /-- the running cycle total (R31) -/
  cycles : Nat
  /-- the address space (R50) -/
  mem : Memory
  /-- the dot counter, 0..455 (R32) -/
  dot : Nat
  /-- the line counter, 0..153 (R32) -/
  line : Nat
  /-- the frame-ready signal (R32, R278) -/
  frameReady : Bool
  /-- the framebuffer: 144 rows of 160 shades, outside the address space (R32, R71) -/
  fb : List (List Shade)
  /-- the record of a terminating decode failure (R36, R262) -/
  fault : Option FaultRecord
deriving DecidableEq, Repr

/-- The image whose load failed (R263). -/
inductive Image where
  | boot
  | cartridge
deriving DecidableEq, Repr

/-- The outcomes that leave no state. No step ever answers one: an UnimplementedOpcode is recorded IN the state (R262). -/
inductive Fault where
  /-- E3 of R261, ResourceLoadFailure (R263). Raised by `powerOn` alone, before any step; safe: no state exists. -/
  | resourceLoadFailure (which : Image)
deriving DecidableEq, Repr

/-- Reasons a step has no meaning. -/
inductive Refusal where
  /-- Raised by an arm of `exec` whose instruction has no meaning yet; no arm is left that raises it. Safe. -/
  | notModelled (mnemonic : String)
deriving DecidableEq, Repr

/-- What a meaning answers. -/
abbrev Result := Host.Outcome State Fault Refusal

/-- The state right after power-on (R37) with the reference parameters of R12: memory zero-filled (R310) and no image
copied in, the registers at the reference `RESET_REGS`, PC at the reference `ENTRY_PC`. -/
def State.reset : State :=
  { a := Config.referenceResetRegs.a, f := Config.referenceResetRegs.f, b := Config.referenceResetRegs.b,
    c := Config.referenceResetRegs.c, d := Config.referenceResetRegs.d, e := Config.referenceResetRegs.e,
    h := Config.referenceResetRegs.h, l := Config.referenceResetRegs.l, sp := Config.referenceResetRegs.sp,
    pc := 0x0000, ime := false, cycles := 0, mem := [], dot := 0, line := 0, frameReady := false,
    fb := Config.referenceFbReset, fault := none }

end Sys2Proof.Machine
end

