-- ==== Sys2Proof/Machine/Ops.lean ====
section
/-! DEFINITION. The named operations over memory and registers: the Bus of spec/20_memory.md, the stack primitives, the
retirement of an instruction, and the one exception the machine has (spec/60_exceptions.md R260 to R262). There is no
return from an exception: none is ever entered (R268), and RETI is an ordinary return (Machine/Control.lean). -/

namespace Sys2Proof.Machine

/-! ### The store -/

/-- What an unlisted address reads as: the zero fill of power-on (R310). -/
def Memory.unlisted : Byte := 0x00

/-- The byte at an address. -/
def Memory.read : Memory → Nat → Byte
  | [], _ => Memory.unlisted
  | (k, v) :: rest, a => if k = a then v else Memory.read rest a

/-- The store with one byte replaced, in canonical form again. -/
def Memory.write : Memory → Nat → Byte → Memory
  | [], a, v => if v = Memory.unlisted then [] else [(a, v)]
  | (k, w) :: rest, a, v =>
    if k < a then (k, w) :: Memory.write rest a v
    else if k = a then (if v = Memory.unlisted then rest else (a, v) :: rest)
    else if v = Memory.unlisted then (k, w) :: rest
    else (a, v) :: (k, w) :: rest

/-- The canonical form from an address on: addresses strictly rise, stay below 65536, and no entry holds the unlisted
byte. -/
def Memory.wfFrom : Nat → Memory → Bool
  | _, [] => true
  | lo, (k, v) :: rest =>
    decide (lo ≤ k) && decide (k < 65536) && decide (v ≠ Memory.unlisted) && Memory.wfFrom (k + 1) rest

/-- The store is in canonical form (R50: 65536 addresses). -/
def Memory.wf (m : Memory) : Bool := Memory.wfFrom 0 m

/-- Copy a byte sequence in from an address on, past the write guard: the power-on loader of R311 and R312. -/
def Memory.load : Memory → Nat → List Byte → Memory
  | m, _, [] => m
  | m, a, v :: rest => Memory.load (m.write a v) (a + 1) rest

/-! ### The Bus -/

/-- `ROM_BOUNDARY` (R11, R53). -/
def romBoundary : Nat := 0x8000

/-- `read8` (R51); it changes no state (R56) and never faults (R55). -/
def read8 (addr : Word) (s : State) : Byte := s.mem.read addr.toNat

/-- `read16` (R52): little-endian, the second address wrapping (R57). -/
def read16 (addr : Word) (s : State) : Word := wordOf (read8 (addr + 1) s) (read8 addr s)

/-- `write8` (R53): a write below the boundary changes nothing. -/
def write8 (addr : Word) (v : Byte) (s : State) : State :=
  if addr.toNat < romBoundary then s else { s with mem := s.mem.write addr.toNat v }

/-- `write16` (R54): two `write8`, low byte first, each guarded by itself; the second address wraps (R57). -/
def write16 (addr : Word) (v : Word) (s : State) : State :=
  write8 (addr + 1) (hiByte v) (write8 addr (loByte v) s)

/-! ### The stack -/

/-- `Push16` (R60). -/
def push16 (v : Word) (s : State) : State :=
  write16 (s.sp - 2) v { s with sp := s.sp - 2 }

/-- The value `Pop16` returns (R61). -/
def popValue (s : State) : Word := read16 s.sp s

/-- The state `Pop16` leaves (R61). -/
def popped (s : State) : State := { s with sp := s.sp + 2 }

/-! ### Retirement and the exception -/

/-- The fetch of an instruction's bytes moves PC past them (R28, R81) and its cost is added to the cycle total (R80, R84).
No instruction reads `cycles`, so when within the instruction the cost is added cannot be told. -/
def retire (len cost : Nat) (s : State) : State :=
  { s with pc := s.pc + BitVec.ofNat 16 len, cycles := s.cycles + cost }

/-- UnimplementedOpcode (R260 to R262), taken with PC still at the opcode's first byte: the record is written and nothing
else changes. It has no handler, no vector and no saved registers (R267). -/
def raiseUnimplemented (bytes : List Byte) (s : State) : State :=
  { s with fault := some { addr := s.pc, bytes := bytes } }

end Sys2Proof.Machine
end

