-- ==== Sys2Proof/Machine/Operands.lean ====
section
/-! DEFINITION. Every operand form: the 8-bit registers and memory at HL (spec/30_encoding.md R85, R88), the pairs (R86,
R87, spec/10_state.md R21, R22), the addresses of the page at 0xFF00 (R112 to R115), and the increment and decrement of a
pair, which is also the update of the `(HL+)` and `(HL-)` forms. -/

namespace Sys2Proof.Machine

/-- Read an 8-bit register (R14, R20). -/
def getReg8 (r : Reg8) (s : State) : Byte :=
  match r with
  | .b => s.b
  | .c => s.c
  | .d => s.d
  | .e => s.e
  | .h => s.h
  | .l => s.l
  | .a => s.a

/-- Write an 8-bit register. -/
def setReg8 (r : Reg8) (v : Byte) (s : State) : State :=
  match r with
  | .b => { s with b := v }
  | .c => { s with c := v }
  | .d => { s with d := v }
  | .e => { s with e := v }
  | .h => { s with h := v }
  | .l => { s with l := v }
  | .a => { s with a := v }

/-- Read a pair: the first-named register is the high byte (R21). -/
def getPair (p : Pair) (s : State) : Word :=
  match p with
  | .bc => wordOf s.b s.c
  | .de => wordOf s.d s.e
  | .hl => wordOf s.h s.l
  | .sp => s.sp

/-- Write a pair: both halves (R22). -/
def setPair (p : Pair) (v : Word) (s : State) : State :=
  match p with
  | .bc => { s with b := hiByte v, c := loByte v }
  | .de => { s with d := hiByte v, e := loByte v }
  | .hl => { s with h := hiByte v, l := loByte v }
  | .sp => { s with sp := v }

/-- Read a stack pair (R87). -/
def getStackPair (p : StackPair) (s : State) : Word :=
  match p with
  | .bc => wordOf s.b s.c
  | .de => wordOf s.d s.e
  | .hl => wordOf s.h s.l
  | .af => wordOf s.a s.f

/-- Write a stack pair; the low nibble of a byte written to F is discarded (R22, R25). -/
def setStackPair (p : StackPair) (v : Word) (s : State) : State :=
  match p with
  | .bc => { s with b := hiByte v, c := loByte v }
  | .de => { s with d := hiByte v, e := loByte v }
  | .hl => { s with h := hiByte v, l := loByte v }
  | .af => { s with a := hiByte v, f := loByte v &&& 0xF0 }

/-- `Op8` (R88). -/
def op8 (o : Operand8) (s : State) : Byte :=
  match o with
  | .reg r => getReg8 r s
  | .hlMem => read8 (getPair .hl s) s

/-- `SetOp8` (R88); a write to memory is guarded (R53). -/
def setOp8 (o : Operand8) (v : Byte) (s : State) : State :=
  match o with
  | .reg r => setReg8 r v s
  | .hlMem => write8 (getPair .hl s) v s

/-- The address 0xFF00 + n (R90, R112 to R115). -/
def ioAddr (n : Byte) : Word := 0xFF00 + zext16 n

/-- Increment a pair mod 65536, no flag written (R190, R116, R118). -/
def incPair (p : Pair) (s : State) : State := setPair p (getPair p s + 1) s

/-- Decrement a pair mod 65536, no flag written (R191, R117, R119). -/
def decPair (p : Pair) (s : State) : State := setPair p (getPair p s - 1) s

end Sys2Proof.Machine
end

