-- ==== Sys2Proof/Machine/Flags.lean ====
section
/-! DEFINITION. The flag byte (spec/10_state.md R24 to R27), every computation that sets a flag (spec/42_alu8.md R150 to
R152, R181, spec/43_alu16.md R192, R193, spec/41_load16_stack.md R133, spec/44_rotate_shift_bit.md R204 to R220) and the
conditions that read one (spec/45_control.md R230). Sums and differences are taken exactly and narrowed at the end. -/

namespace Sys2Proof.Machine

/-! ### The flag byte -/

/-- Z, bit 7 of F (R24). -/
def flagZ (s : State) : Bool := s.f.getLsbD 7

/-- N, bit 6 of F (R24). -/
def flagN (s : State) : Bool := s.f.getLsbD 6

/-- H, bit 5 of F (R24). -/
def flagH (s : State) : Bool := s.f.getLsbD 5

/-- C, bit 4 of F (R24). -/
def flagC (s : State) : Bool := s.f.getLsbD 4

/-- One bit as a byte, shifted up to its place. -/
def bitAt (v : Bool) (place : Nat) : Byte := (BitVec.ofBool v).setWidth 8 <<< place

/-- `flags(Z, N, H, C)`, with bits 3..0 zero (R185). -/
def flagsByte (z n h c : Bool) : Byte := bitAt z 7 ||| bitAt n 6 ||| bitAt h 5 ||| bitAt c 4

/-- `F <- flags(z, n, h, c)` (R185). -/
def putAllFlags (z n h c : Bool) (s : State) : State := { s with f := flagsByte z n h c }

/-- Write the flags that are given and keep the others, and bits 3..0 with them (R25, R26, R185). -/
def putFlags (z n h c : Option Bool) (s : State) : State :=
  { s with
    f := flagsByte (z.getD (flagZ s)) (n.getD (flagN s)) (h.getD (flagH s)) (c.getD (flagC s)) ||| (s.f &&& 0x0F) }

/-- `cond(cc)` (R230). -/
def cond (cc : Cond) (s : State) : Bool :=
  match cc with
  | .nz => !flagZ s
  | .z => flagZ s
  | .nc => !flagC s
  | .c => flagC s

/-! ### 8-bit arithmetic and logic -/

/-- An 8-bit result and the four flags it gives. -/
structure AluOut where
  res : Byte
  z   : Bool
  n   : Bool
  h   : Bool
  c   : Bool
deriving DecidableEq, Repr

/-- `Add8` (R150). -/
def add8 (a b : Byte) (cin : Bool) : AluOut :=
  let sum := a.toNat + b.toNat + cin.toNat
  let res := BitVec.ofNat 8 sum
  { res := res, z := res == 0, n := false,
    h := decide (a.toNat % 16 + b.toNat % 16 + cin.toNat > 0x0F), c := decide (sum > 0xFF) }

/-- `Sub8` (R151). -/
def sub8 (a b : Byte) (cin : Bool) : AluOut :=
  let res := BitVec.ofInt 8 ((a.toNat : Int) - b.toNat - cin.toNat)
  { res := res, z := res == 0, n := true,
    h := decide (a.toNat % 16 < b.toNat % 16 + cin.toNat), c := decide (a.toNat < b.toNat + cin.toNat) }

/-- `And8` (R152). -/
def and8 (a b : Byte) : AluOut := { res := a &&& b, z := a &&& b == 0, n := false, h := true, c := false }

/-- `Xor8` (R152). -/
def xor8 (a b : Byte) : AluOut := { res := a ^^^ b, z := a ^^^ b == 0, n := false, h := false, c := false }

/-- `Or8` (R152). -/
def or8 (a b : Byte) : AluOut := { res := a ||| b, z := a ||| b == 0, n := false, h := false, c := false }

/-- The result and flags of an ALU operation given the old carry (R153 to R176). -/
def alu (op : AluOp) (a b : Byte) (carry : Bool) : AluOut :=
  match op with
  | .add => add8 a b false
  | .adc => add8 a b carry
  | .sub => sub8 a b false
  | .sbc => sub8 a b carry
  | .and => and8 a b
  | .xor => xor8 a b
  | .or => or8 a b
  | .cp => sub8 a b false

/-- The result and the new carry of `DAA` (R181, D33). -/
def daa (a : Byte) (n h c : Bool) : Byte × Bool :=
  if n then
    let a1 := if c then a - 0x60 else a
    (if h then a1 - 0x06 else a1, c)
  else
    let high := c || decide (a.toNat > 0x99)
    let a1 := if high then a + 0x60 else a
    (if h || decide (a1.toNat % 16 > 0x09) then a1 + 0x06 else a1, high)

/-! ### 16-bit arithmetic -/

/-- A 16-bit result and the H and C it gives. -/
structure Add16Out where
  res : Word
  h   : Bool
  c   : Bool
deriving DecidableEq, Repr

/-- The sum of `ADD HL,rr`: carries out of bits 11 and 15 (R192). -/
def add16 (a b : Word) : Add16Out :=
  { res := BitVec.ofNat 16 (a.toNat + b.toNat),
    h := decide (a.toNat % 0x1000 + b.toNat % 0x1000 > 0x0FFF), c := decide (a.toNat + b.toNat > 0xFFFF) }

/-- SP plus a signed displacement, with the unsigned carries of the low byte (R133, R193). -/
def offsetAdd (sp : Word) (e : Byte) : Add16Out :=
  { res := sp + sext16 e,
    h := decide (sp.toNat % 0x10 + e.toNat % 0x10 > 0x0F), c := decide (sp.toNat % 0x100 + e.toNat > 0xFF) }

/-! ### Rotates and shifts -/

/-- The result and carry-out of a rotate or shift given the old carry (R200 to R220). -/
def rotate (op : RotOp) (v : Byte) (carry : Bool) : Byte × Bool :=
  match op with
  | .rlc => ((v <<< 1) ||| bitAt (v.getLsbD 7) 0, v.getLsbD 7)
  | .rrc => ((v >>> 1) ||| bitAt (v.getLsbD 0) 7, v.getLsbD 0)
  | .rl => ((v <<< 1) ||| bitAt carry 0, v.getLsbD 7)
  | .rr => ((v >>> 1) ||| bitAt carry 7, v.getLsbD 0)
  | .sla => (v <<< 1, v.getLsbD 7)
  | .sra => ((v >>> 1) ||| (v &&& 0x80), v.getLsbD 0)
  | .swap => ((v <<< 4) ||| (v >>> 4), false)
  | .srl => (v >>> 1, v.getLsbD 0)

end Sys2Proof.Machine
end

