-- ==== Sys2Proof/Machine/Alu16.lean ====
section
/-! DEFINITION. 16-bit arithmetic (spec/43_alu16.md). A meaning runs with PC still at the instruction's first byte: `retire`
moves PC past the instruction and adds its cost, then come the effects (R16, R28, R80). -/

namespace Sys2Proof.Machine

/-- `ADD HL,rr`: Z is kept, H and C are the carries out of bits 11 and 15 (R192). -/
def addHLPair (p : Pair) (s : State) : State :=
  let o := add16 (getPair .hl s) (getPair p s)
  putFlags none (some false) (some o.h) (some o.c) (setPair .hl o.res s)

/-- `ADD SP,e8` (R193). -/
def addSPOffset (e : Byte) (s : State) : State :=
  let o := offsetAdd s.sp e
  putFlags (some false) (some false) (some o.h) (some o.c) (setPair .sp o.res s)

/-! ### The meanings -/

/-- `INC BC` (R190) -/
def execIncBC (s : State) : Result :=
  .next (incPair .bc (retire 1 8 s))

/-- `ADD HL,BC` (R192) -/
def execAddHLBC (s : State) : Result :=
  .next (addHLPair .bc (retire 1 8 s))

/-- `DEC BC` (R191) -/
def execDecBC (s : State) : Result :=
  .next (decPair .bc (retire 1 8 s))

/-- `INC DE` (R190) -/
def execIncDE (s : State) : Result :=
  .next (incPair .de (retire 1 8 s))

/-- `ADD HL,DE` (R192) -/
def execAddHLDE (s : State) : Result :=
  .next (addHLPair .de (retire 1 8 s))

/-- `DEC DE` (R191) -/
def execDecDE (s : State) : Result :=
  .next (decPair .de (retire 1 8 s))

/-- `INC HL` (R190) -/
def execIncHL (s : State) : Result :=
  .next (incPair .hl (retire 1 8 s))

/-- `ADD HL,HL` (R192) -/
def execAddHLHL (s : State) : Result :=
  .next (addHLPair .hl (retire 1 8 s))

/-- `DEC HL` (R191) -/
def execDecHL (s : State) : Result :=
  .next (decPair .hl (retire 1 8 s))

/-- `INC SP` (R190) -/
def execIncSP (s : State) : Result :=
  .next (incPair .sp (retire 1 8 s))

/-- `ADD HL,SP` (R192) -/
def execAddHLSP (s : State) : Result :=
  .next (addHLPair .sp (retire 1 8 s))

/-- `DEC SP` (R191) -/
def execDecSP (s : State) : Result :=
  .next (decPair .sp (retire 1 8 s))

/-- `ADD SP,e8` (R193) -/
def execAddSPE8 (e : Byte) (s : State) : Result :=
  .next (addSPOffset e (retire 2 16 s))

end Sys2Proof.Machine
end

