-- ==== Sys2Proof/Machine/Alu8.lean ====
section
/-! DEFINITION. 8-bit arithmetic and logic (spec/42_alu8.md). A meaning runs with PC still at the instruction's first byte: `retire`
moves PC past the instruction and adds its cost, then come the effects (R16, R28, R80). -/

namespace Sys2Proof.Machine

/-- Apply an ALU operation to A and a byte: the result goes to A, but for `CP`, and all four flags are written (R153 to
R176). -/
def aluApply (op : AluOp) (b : Byte) (s : State) : State :=
  let o := alu op s.a b (flagC s)
  { s with a := (if op = .cp then s.a else o.res), f := flagsByte o.z o.n o.h o.c }

/-- An ALU operation of A with an 8-bit operand. -/
def aluOp (op : AluOp) (src : Operand8) (s : State) : State := aluApply op (op8 src s) s

/-- 8-bit increment: Z, N and H are written, C is kept (R177, R178). -/
def incOp (o : Operand8) (s : State) : State :=
  let v := op8 o s
  putFlags (some (v + 1 == 0)) (some false) (some (v.toNat % 16 == 0x0F)) none (setOp8 o (v + 1) s)

/-- 8-bit decrement: Z, N and H are written, C is kept (R179, R180). -/
def decOp (o : Operand8) (s : State) : State :=
  let v := op8 o s
  putFlags (some (v - 1 == 0)) (some true) (some (v.toNat % 16 == 0x00)) none (setOp8 o (v - 1) s)

/-- `DAA`: N is kept (R181). -/
def decimalAdjust (s : State) : State :=
  let o := daa s.a (flagN s) (flagH s) (flagC s)
  putFlags (some (o.1 == 0)) none (some false) (some o.2) (setReg8 .a o.1 s)

/-- `CPL` (R182). -/
def complementA (s : State) : State :=
  putFlags none (some true) (some true) none (setReg8 .a (s.a ^^^ 0xFF) s)

/-- `SCF` (R183). -/
def setCarry (s : State) : State := putFlags none (some false) (some false) (some true) s

/-- `CCF` (R184). -/
def complementCarry (s : State) : State := putFlags none (some false) (some false) (some (!flagC s)) s

/-! ### The meanings -/

/-- `INC B` (R177) -/
def execIncB (s : State) : Result :=
  .next (incOp (.reg .b) (retire 1 4 s))

/-- `DEC B` (R179) -/
def execDecB (s : State) : Result :=
  .next (decOp (.reg .b) (retire 1 4 s))

/-- `INC C` (R177) -/
def execIncC (s : State) : Result :=
  .next (incOp (.reg .c) (retire 1 4 s))

/-- `DEC C` (R179) -/
def execDecC (s : State) : Result :=
  .next (decOp (.reg .c) (retire 1 4 s))

/-- `INC D` (R177) -/
def execIncD (s : State) : Result :=
  .next (incOp (.reg .d) (retire 1 4 s))

/-- `DEC D` (R179) -/
def execDecD (s : State) : Result :=
  .next (decOp (.reg .d) (retire 1 4 s))

/-- `INC E` (R177) -/
def execIncE (s : State) : Result :=
  .next (incOp (.reg .e) (retire 1 4 s))

/-- `DEC E` (R179) -/
def execDecE (s : State) : Result :=
  .next (decOp (.reg .e) (retire 1 4 s))

/-- `INC H` (R177) -/
def execIncH (s : State) : Result :=
  .next (incOp (.reg .h) (retire 1 4 s))

/-- `DEC H` (R179) -/
def execDecH (s : State) : Result :=
  .next (decOp (.reg .h) (retire 1 4 s))

/-- `DAA` (R181) -/
def execDaa (s : State) : Result :=
  .next (decimalAdjust (retire 1 4 s))

/-- `INC L` (R177) -/
def execIncL (s : State) : Result :=
  .next (incOp (.reg .l) (retire 1 4 s))

/-- `DEC L` (R179) -/
def execDecL (s : State) : Result :=
  .next (decOp (.reg .l) (retire 1 4 s))

/-- `CPL` (R182) -/
def execCpl (s : State) : Result :=
  .next (complementA (retire 1 4 s))

/-- `INC (HL)` (R178) -/
def execIncIndHL (s : State) : Result :=
  .next (incOp .hlMem (retire 1 12 s))

/-- `DEC (HL)` (R180) -/
def execDecIndHL (s : State) : Result :=
  .next (decOp .hlMem (retire 1 12 s))

/-- `SCF` (R183) -/
def execScf (s : State) : Result :=
  .next (setCarry (retire 1 4 s))

/-- `INC A` (R177) -/
def execIncA (s : State) : Result :=
  .next (incOp (.reg .a) (retire 1 4 s))

/-- `DEC A` (R179) -/
def execDecA (s : State) : Result :=
  .next (decOp (.reg .a) (retire 1 4 s))

/-- `CCF` (R184) -/
def execCcf (s : State) : Result :=
  .next (complementCarry (retire 1 4 s))

/-- `ADD A,B` (R153) -/
def execAddAB (s : State) : Result :=
  .next (aluOp .add (.reg .b) (retire 1 4 s))

/-- `ADD A,C` (R153) -/
def execAddAC (s : State) : Result :=
  .next (aluOp .add (.reg .c) (retire 1 4 s))

/-- `ADD A,D` (R153) -/
def execAddAD (s : State) : Result :=
  .next (aluOp .add (.reg .d) (retire 1 4 s))

/-- `ADD A,E` (R153) -/
def execAddAE (s : State) : Result :=
  .next (aluOp .add (.reg .e) (retire 1 4 s))

/-- `ADD A,H` (R153) -/
def execAddAH (s : State) : Result :=
  .next (aluOp .add (.reg .h) (retire 1 4 s))

/-- `ADD A,L` (R153) -/
def execAddAL (s : State) : Result :=
  .next (aluOp .add (.reg .l) (retire 1 4 s))

/-- `ADD A,(HL)` (R154) -/
def execAddAIndHL (s : State) : Result :=
  .next (aluOp .add .hlMem (retire 1 8 s))

/-- `ADD A,A` (R153) -/
def execAddAA (s : State) : Result :=
  .next (aluOp .add (.reg .a) (retire 1 4 s))

/-- `ADC A,B` (R156) -/
def execAdcAB (s : State) : Result :=
  .next (aluOp .adc (.reg .b) (retire 1 4 s))

/-- `ADC A,C` (R156) -/
def execAdcAC (s : State) : Result :=
  .next (aluOp .adc (.reg .c) (retire 1 4 s))

/-- `ADC A,D` (R156) -/
def execAdcAD (s : State) : Result :=
  .next (aluOp .adc (.reg .d) (retire 1 4 s))

/-- `ADC A,E` (R156) -/
def execAdcAE (s : State) : Result :=
  .next (aluOp .adc (.reg .e) (retire 1 4 s))

/-- `ADC A,H` (R156) -/
def execAdcAH (s : State) : Result :=
  .next (aluOp .adc (.reg .h) (retire 1 4 s))

/-- `ADC A,L` (R156) -/
def execAdcAL (s : State) : Result :=
  .next (aluOp .adc (.reg .l) (retire 1 4 s))

/-- `ADC A,(HL)` (R157) -/
def execAdcAIndHL (s : State) : Result :=
  .next (aluOp .adc .hlMem (retire 1 8 s))

/-- `ADC A,A` (R156) -/
def execAdcAA (s : State) : Result :=
  .next (aluOp .adc (.reg .a) (retire 1 4 s))

/-- `SUB B` (R159) -/
def execSubB (s : State) : Result :=
  .next (aluOp .sub (.reg .b) (retire 1 4 s))

/-- `SUB C` (R159) -/
def execSubC (s : State) : Result :=
  .next (aluOp .sub (.reg .c) (retire 1 4 s))

/-- `SUB D` (R159) -/
def execSubD (s : State) : Result :=
  .next (aluOp .sub (.reg .d) (retire 1 4 s))

/-- `SUB E` (R159) -/
def execSubE (s : State) : Result :=
  .next (aluOp .sub (.reg .e) (retire 1 4 s))

/-- `SUB H` (R159) -/
def execSubH (s : State) : Result :=
  .next (aluOp .sub (.reg .h) (retire 1 4 s))

/-- `SUB L` (R159) -/
def execSubL (s : State) : Result :=
  .next (aluOp .sub (.reg .l) (retire 1 4 s))

/-- `SUB (HL)` (R160) -/
def execSubIndHL (s : State) : Result :=
  .next (aluOp .sub .hlMem (retire 1 8 s))

/-- `SUB A` (R159) -/
def execSubA (s : State) : Result :=
  .next (aluOp .sub (.reg .a) (retire 1 4 s))

/-- `SBC A,B` (R162) -/
def execSbcAB (s : State) : Result :=
  .next (aluOp .sbc (.reg .b) (retire 1 4 s))

/-- `SBC A,C` (R162) -/
def execSbcAC (s : State) : Result :=
  .next (aluOp .sbc (.reg .c) (retire 1 4 s))

/-- `SBC A,D` (R162) -/
def execSbcAD (s : State) : Result :=
  .next (aluOp .sbc (.reg .d) (retire 1 4 s))

/-- `SBC A,E` (R162) -/
def execSbcAE (s : State) : Result :=
  .next (aluOp .sbc (.reg .e) (retire 1 4 s))

/-- `SBC A,H` (R162) -/
def execSbcAH (s : State) : Result :=
  .next (aluOp .sbc (.reg .h) (retire 1 4 s))

/-- `SBC A,L` (R162) -/
def execSbcAL (s : State) : Result :=
  .next (aluOp .sbc (.reg .l) (retire 1 4 s))

/-- `SBC A,(HL)` (R163) -/
def execSbcAIndHL (s : State) : Result :=
  .next (aluOp .sbc .hlMem (retire 1 8 s))

/-- `SBC A,A` (R162) -/
def execSbcAA (s : State) : Result :=
  .next (aluOp .sbc (.reg .a) (retire 1 4 s))

/-- `AND B` (R165) -/
def execAndB (s : State) : Result :=
  .next (aluOp .and (.reg .b) (retire 1 4 s))

/-- `AND C` (R165) -/
def execAndC (s : State) : Result :=
  .next (aluOp .and (.reg .c) (retire 1 4 s))

/-- `AND D` (R165) -/
def execAndD (s : State) : Result :=
  .next (aluOp .and (.reg .d) (retire 1 4 s))

/-- `AND E` (R165) -/
def execAndE (s : State) : Result :=
  .next (aluOp .and (.reg .e) (retire 1 4 s))

/-- `AND H` (R165) -/
def execAndH (s : State) : Result :=
  .next (aluOp .and (.reg .h) (retire 1 4 s))

/-- `AND L` (R165) -/
def execAndL (s : State) : Result :=
  .next (aluOp .and (.reg .l) (retire 1 4 s))

/-- `AND (HL)` (R166) -/
def execAndIndHL (s : State) : Result :=
  .next (aluOp .and .hlMem (retire 1 8 s))

/-- `AND A` (R165) -/
def execAndA (s : State) : Result :=
  .next (aluOp .and (.reg .a) (retire 1 4 s))

/-- `XOR B` (R168) -/
def execXorB (s : State) : Result :=
  .next (aluOp .xor (.reg .b) (retire 1 4 s))

/-- `XOR C` (R168) -/
def execXorC (s : State) : Result :=
  .next (aluOp .xor (.reg .c) (retire 1 4 s))

/-- `XOR D` (R168) -/
def execXorD (s : State) : Result :=
  .next (aluOp .xor (.reg .d) (retire 1 4 s))

/-- `XOR E` (R168) -/
def execXorE (s : State) : Result :=
  .next (aluOp .xor (.reg .e) (retire 1 4 s))

/-- `XOR H` (R168) -/
def execXorH (s : State) : Result :=
  .next (aluOp .xor (.reg .h) (retire 1 4 s))

/-- `XOR L` (R168) -/
def execXorL (s : State) : Result :=
  .next (aluOp .xor (.reg .l) (retire 1 4 s))

/-- `XOR (HL)` (R169) -/
def execXorIndHL (s : State) : Result :=
  .next (aluOp .xor .hlMem (retire 1 8 s))

/-- `XOR A` (R168) -/
def execXorA (s : State) : Result :=
  .next (aluOp .xor (.reg .a) (retire 1 4 s))

/-- `OR B` (R171) -/
def execOrB (s : State) : Result :=
  .next (aluOp .or (.reg .b) (retire 1 4 s))

/-- `OR C` (R171) -/
def execOrC (s : State) : Result :=
  .next (aluOp .or (.reg .c) (retire 1 4 s))

/-- `OR D` (R171) -/
def execOrD (s : State) : Result :=
  .next (aluOp .or (.reg .d) (retire 1 4 s))

/-- `OR E` (R171) -/
def execOrE (s : State) : Result :=
  .next (aluOp .or (.reg .e) (retire 1 4 s))

/-- `OR H` (R171) -/
def execOrH (s : State) : Result :=
  .next (aluOp .or (.reg .h) (retire 1 4 s))

/-- `OR L` (R171) -/
def execOrL (s : State) : Result :=
  .next (aluOp .or (.reg .l) (retire 1 4 s))

/-- `OR (HL)` (R172) -/
def execOrIndHL (s : State) : Result :=
  .next (aluOp .or .hlMem (retire 1 8 s))

/-- `OR A` (R171) -/
def execOrA (s : State) : Result :=
  .next (aluOp .or (.reg .a) (retire 1 4 s))

/-- `CP B` (R174) -/
def execCpB (s : State) : Result :=
  .next (aluOp .cp (.reg .b) (retire 1 4 s))

/-- `CP C` (R174) -/
def execCpC (s : State) : Result :=
  .next (aluOp .cp (.reg .c) (retire 1 4 s))

/-- `CP D` (R174) -/
def execCpD (s : State) : Result :=
  .next (aluOp .cp (.reg .d) (retire 1 4 s))

/-- `CP E` (R174) -/
def execCpE (s : State) : Result :=
  .next (aluOp .cp (.reg .e) (retire 1 4 s))

/-- `CP H` (R174) -/
def execCpH (s : State) : Result :=
  .next (aluOp .cp (.reg .h) (retire 1 4 s))

/-- `CP L` (R174) -/
def execCpL (s : State) : Result :=
  .next (aluOp .cp (.reg .l) (retire 1 4 s))

/-- `CP (HL)` (R175) -/
def execCpIndHL (s : State) : Result :=
  .next (aluOp .cp .hlMem (retire 1 8 s))

/-- `CP A` (R174) -/
def execCpA (s : State) : Result :=
  .next (aluOp .cp (.reg .a) (retire 1 4 s))

/-- `ADD A,d8` (R155) -/
def execAddAD8 (v : Byte) (s : State) : Result :=
  .next (aluApply .add v (retire 2 8 s))

/-- `ADC A,d8` (R158) -/
def execAdcAD8 (v : Byte) (s : State) : Result :=
  .next (aluApply .adc v (retire 2 8 s))

/-- `SUB d8` (R161) -/
def execSubD8 (v : Byte) (s : State) : Result :=
  .next (aluApply .sub v (retire 2 8 s))

/-- `SBC A,d8` (R164) -/
def execSbcAD8 (v : Byte) (s : State) : Result :=
  .next (aluApply .sbc v (retire 2 8 s))

/-- `AND d8` (R167) -/
def execAndD8 (v : Byte) (s : State) : Result :=
  .next (aluApply .and v (retire 2 8 s))

/-- `XOR d8` (R170) -/
def execXorD8 (v : Byte) (s : State) : Result :=
  .next (aluApply .xor v (retire 2 8 s))

/-- `OR d8` (R173) -/
def execOrD8 (v : Byte) (s : State) : Result :=
  .next (aluApply .or v (retire 2 8 s))

/-- `CP d8` (R176) -/
def execCpD8 (v : Byte) (s : State) : Result :=
  .next (aluApply .cp v (retire 2 8 s))

end Sys2Proof.Machine
end

