-- ==== Sys2Proof/Machine/Bit.lean ====
section
/-! DEFINITION. Single-bit operations (spec/44_rotate_shift_bit.md R221 to R226). A meaning runs with PC still at the instruction's first byte: `retire`
moves PC past the instruction and adds its cost, then come the effects (R16, R28, R80). -/

namespace Sys2Proof.Machine

/-- `BIT b`: Z is the complement of the bit, H is set, C is kept (R221, R222). -/
def testBit (b : BitVec 3) (o : Operand8) (s : State) : State :=
  putFlags (some (!(op8 o s).getLsbD b.toNat)) (some false) (some true) none s

/-- `RES b` (R223, R224). -/
def clearBit (b : BitVec 3) (o : Operand8) (s : State) : State :=
  setOp8 o (op8 o s &&& ~~~((1 : Byte) <<< b.toNat)) s

/-- `SET b` (R225, R226). -/
def setBit (b : BitVec 3) (o : Operand8) (s : State) : State :=
  setOp8 o (op8 o s ||| ((1 : Byte) <<< b.toNat)) s

/-! ### The meanings -/

/-- `BIT b,B` (R221) -/
def execBitB (b : BitVec 3) (s : State) : Result :=
  .next (testBit b (.reg .b) (retire 2 8 s))

/-- `BIT b,C` (R221) -/
def execBitC (b : BitVec 3) (s : State) : Result :=
  .next (testBit b (.reg .c) (retire 2 8 s))

/-- `BIT b,D` (R221) -/
def execBitD (b : BitVec 3) (s : State) : Result :=
  .next (testBit b (.reg .d) (retire 2 8 s))

/-- `BIT b,E` (R221) -/
def execBitE (b : BitVec 3) (s : State) : Result :=
  .next (testBit b (.reg .e) (retire 2 8 s))

/-- `BIT b,H` (R221) -/
def execBitH (b : BitVec 3) (s : State) : Result :=
  .next (testBit b (.reg .h) (retire 2 8 s))

/-- `BIT b,L` (R221) -/
def execBitL (b : BitVec 3) (s : State) : Result :=
  .next (testBit b (.reg .l) (retire 2 8 s))

/-- `BIT b,(HL)` (R222) -/
def execBitIndHL (b : BitVec 3) (s : State) : Result :=
  .next (testBit b .hlMem (retire 2 12 s))

/-- `BIT b,A` (R221) -/
def execBitA (b : BitVec 3) (s : State) : Result :=
  .next (testBit b (.reg .a) (retire 2 8 s))

/-- `RES b,B` (R223) -/
def execResB (b : BitVec 3) (s : State) : Result :=
  .next (clearBit b (.reg .b) (retire 2 8 s))

/-- `RES b,C` (R223) -/
def execResC (b : BitVec 3) (s : State) : Result :=
  .next (clearBit b (.reg .c) (retire 2 8 s))

/-- `RES b,D` (R223) -/
def execResD (b : BitVec 3) (s : State) : Result :=
  .next (clearBit b (.reg .d) (retire 2 8 s))

/-- `RES b,E` (R223) -/
def execResE (b : BitVec 3) (s : State) : Result :=
  .next (clearBit b (.reg .e) (retire 2 8 s))

/-- `RES b,H` (R223) -/
def execResH (b : BitVec 3) (s : State) : Result :=
  .next (clearBit b (.reg .h) (retire 2 8 s))

/-- `RES b,L` (R223) -/
def execResL (b : BitVec 3) (s : State) : Result :=
  .next (clearBit b (.reg .l) (retire 2 8 s))

/-- `RES b,(HL)` (R224) -/
def execResIndHL (b : BitVec 3) (s : State) : Result :=
  .next (clearBit b .hlMem (retire 2 16 s))

/-- `RES b,A` (R223) -/
def execResA (b : BitVec 3) (s : State) : Result :=
  .next (clearBit b (.reg .a) (retire 2 8 s))

/-- `SET b,B` (R225) -/
def execSetB (b : BitVec 3) (s : State) : Result :=
  .next (setBit b (.reg .b) (retire 2 8 s))

/-- `SET b,C` (R225) -/
def execSetC (b : BitVec 3) (s : State) : Result :=
  .next (setBit b (.reg .c) (retire 2 8 s))

/-- `SET b,D` (R225) -/
def execSetD (b : BitVec 3) (s : State) : Result :=
  .next (setBit b (.reg .d) (retire 2 8 s))

/-- `SET b,E` (R225) -/
def execSetE (b : BitVec 3) (s : State) : Result :=
  .next (setBit b (.reg .e) (retire 2 8 s))

/-- `SET b,H` (R225) -/
def execSetH (b : BitVec 3) (s : State) : Result :=
  .next (setBit b (.reg .h) (retire 2 8 s))

/-- `SET b,L` (R225) -/
def execSetL (b : BitVec 3) (s : State) : Result :=
  .next (setBit b (.reg .l) (retire 2 8 s))

/-- `SET b,(HL)` (R226) -/
def execSetIndHL (b : BitVec 3) (s : State) : Result :=
  .next (setBit b .hlMem (retire 2 16 s))

/-- `SET b,A` (R225) -/
def execSetA (b : BitVec 3) (s : State) : Result :=
  .next (setBit b (.reg .a) (retire 2 8 s))

end Sys2Proof.Machine
end

