-- ==== Sys2Proof/Machine/Control.lean ====
section
/-! DEFINITION. Control transfer (spec/45_control.md). A meaning runs with PC still at the instruction's first byte: `retire`
moves PC past the instruction and adds its cost, then come the effects (R16, R28, R80). -/

namespace Sys2Proof.Machine

/-- An absolute jump (R231, R232, R233). -/
def jumpTo (t : Word) (s : State) : State := { s with pc := t }

/-- A relative jump from the address after the instruction (R234, R235, D34). -/
def jumpRelative (e : Byte) (s : State) : State := { s with pc := s.pc + sext16 e }

/-- A call: the address after the instruction is pushed (R236, R237, R241). -/
def callTo (t : Word) (s : State) : State := { push16 s.pc s with pc := t }

/-- A return (R238, R239). -/
def returnPop (s : State) : State := { popped s with pc := popValue s }

/-- `RETI`: a return that also sets IME (R240). -/
def returnInterrupt (s : State) : State := { returnPop s with ime := true }

/-- The restart target `ttt * 8` (R241, R90). -/
def rstTarget (ttt : Nat) : Word := BitVec.ofNat 16 (ttt * 8)

/-! ### The meanings -/

/-- `JR e8` (R234) -/
def execJrE8 (e : Byte) (s : State) : Result :=
  .next (jumpRelative e (retire 2 12 s))

/-- `JR NZ,e8` (R235) -/
def execJrNZE8 (e : Byte) (s : State) : Result :=
  if cond .nz s then .next (jumpRelative e (retire 2 12 s)) else .next (retire 2 8 s)

/-- `JR Z,e8` (R235) -/
def execJrZE8 (e : Byte) (s : State) : Result :=
  if cond .z s then .next (jumpRelative e (retire 2 12 s)) else .next (retire 2 8 s)

/-- `JR NC,e8` (R235) -/
def execJrNCE8 (e : Byte) (s : State) : Result :=
  if cond .nc s then .next (jumpRelative e (retire 2 12 s)) else .next (retire 2 8 s)

/-- `JR C,e8` (R235) -/
def execJrCE8 (e : Byte) (s : State) : Result :=
  if cond .c s then .next (jumpRelative e (retire 2 12 s)) else .next (retire 2 8 s)

/-- `RET NZ` (R239) -/
def execRetNZ (s : State) : Result :=
  if cond .nz s then .next (returnPop (retire 1 20 s)) else .next (retire 1 8 s)

/-- `JP NZ,a16` (R232) -/
def execJpNZA16 (t : Word) (s : State) : Result :=
  if cond .nz s then .next (jumpTo t (retire 3 16 s)) else .next (retire 3 12 s)

/-- `JP a16` (R231) -/
def execJpA16 (t : Word) (s : State) : Result :=
  .next (jumpTo t (retire 3 16 s))

/-- `CALL NZ,a16` (R237) -/
def execCallNZA16 (t : Word) (s : State) : Result :=
  if cond .nz s then .next (callTo t (retire 3 24 s)) else .next (retire 3 12 s)

/-- `RST 00H` (R241) -/
def execRst00 (s : State) : Result :=
  .next (callTo (rstTarget 0) (retire 1 16 s))

/-- `RET Z` (R239) -/
def execRetZ (s : State) : Result :=
  if cond .z s then .next (returnPop (retire 1 20 s)) else .next (retire 1 8 s)

/-- `RET` (R238) -/
def execRet (s : State) : Result :=
  .next (returnPop (retire 1 16 s))

/-- `JP Z,a16` (R232) -/
def execJpZA16 (t : Word) (s : State) : Result :=
  if cond .z s then .next (jumpTo t (retire 3 16 s)) else .next (retire 3 12 s)

/-- `CALL Z,a16` (R237) -/
def execCallZA16 (t : Word) (s : State) : Result :=
  if cond .z s then .next (callTo t (retire 3 24 s)) else .next (retire 3 12 s)

/-- `CALL a16` (R236) -/
def execCallA16 (t : Word) (s : State) : Result :=
  .next (callTo t (retire 3 24 s))

/-- `RST 08H` (R241) -/
def execRst08 (s : State) : Result :=
  .next (callTo (rstTarget 1) (retire 1 16 s))

/-- `RET NC` (R239) -/
def execRetNC (s : State) : Result :=
  if cond .nc s then .next (returnPop (retire 1 20 s)) else .next (retire 1 8 s)

/-- `JP NC,a16` (R232) -/
def execJpNCA16 (t : Word) (s : State) : Result :=
  if cond .nc s then .next (jumpTo t (retire 3 16 s)) else .next (retire 3 12 s)

/-- `CALL NC,a16` (R237) -/
def execCallNCA16 (t : Word) (s : State) : Result :=
  if cond .nc s then .next (callTo t (retire 3 24 s)) else .next (retire 3 12 s)

/-- `RST 10H` (R241) -/
def execRst10 (s : State) : Result :=
  .next (callTo (rstTarget 2) (retire 1 16 s))

/-- `RET C` (R239) -/
def execRetC (s : State) : Result :=
  if cond .c s then .next (returnPop (retire 1 20 s)) else .next (retire 1 8 s)

/-- `RETI` (R240) -/
def execReti (s : State) : Result :=
  .next (returnInterrupt (retire 1 16 s))

/-- `JP C,a16` (R232) -/
def execJpCA16 (t : Word) (s : State) : Result :=
  if cond .c s then .next (jumpTo t (retire 3 16 s)) else .next (retire 3 12 s)

/-- `CALL C,a16` (R237) -/
def execCallCA16 (t : Word) (s : State) : Result :=
  if cond .c s then .next (callTo t (retire 3 24 s)) else .next (retire 3 12 s)

/-- `RST 18H` (R241) -/
def execRst18 (s : State) : Result :=
  .next (callTo (rstTarget 3) (retire 1 16 s))

/-- `RST 20H` (R241) -/
def execRst20 (s : State) : Result :=
  .next (callTo (rstTarget 4) (retire 1 16 s))

/-- `JP HL` (R233) -/
def execJpHL (s : State) : Result :=
  .next (jumpTo (getPair .hl s) (retire 1 4 s))

/-- `RST 28H` (R241) -/
def execRst28 (s : State) : Result :=
  .next (callTo (rstTarget 5) (retire 1 16 s))

/-- `RST 30H` (R241) -/
def execRst30 (s : State) : Result :=
  .next (callTo (rstTarget 6) (retire 1 16 s))

/-- `RST 38H` (R241) -/
def execRst38 (s : State) : Result :=
  .next (callTo (rstTarget 7) (retire 1 16 s))

end Sys2Proof.Machine
end

