-- ==== Sys2Proof/Machine/Load16.lean ====
section
/-! DEFINITION. 16-bit loads and the stack (spec/41_load16_stack.md). A meaning runs with PC still at the instruction's first byte: `retire`
moves PC past the instruction and adds its cost, then come the effects (R16, R28, R80). -/

namespace Sys2Proof.Machine

/-- `LD HL,SP+e8` (R133). -/
def loadHLSPOffset (e : Byte) (s : State) : State :=
  let o := offsetAdd s.sp e
  putFlags (some false) (some false) (some o.h) (some o.c) (setPair .hl o.res s)

/-- `PUSH rr` (R134). -/
def pushPair (p : StackPair) (s : State) : State := push16 (getStackPair p s) s

/-- `POP rr` and `POP AF` (R135, R136). -/
def popPair (p : StackPair) (s : State) : State := setStackPair p (popValue s) (popped s)

/-! ### The meanings -/

/-- `LD BC,d16` (R130) -/
def execLdBCD16 (v : Word) (s : State) : Result :=
  .next (setPair .bc v (retire 3 12 s))

/-- `LD (a16),SP` (R131) -/
def execLdIndA16SP (a : Word) (s : State) : Result :=
  .next (write16 a s.sp (retire 3 20 s))

/-- `LD DE,d16` (R130) -/
def execLdDED16 (v : Word) (s : State) : Result :=
  .next (setPair .de v (retire 3 12 s))

/-- `LD HL,d16` (R130) -/
def execLdHLD16 (v : Word) (s : State) : Result :=
  .next (setPair .hl v (retire 3 12 s))

/-- `LD SP,d16` (R130) -/
def execLdSPD16 (v : Word) (s : State) : Result :=
  .next (setPair .sp v (retire 3 12 s))

/-- `POP BC` (R135) -/
def execPopBC (s : State) : Result :=
  .next (popPair .bc (retire 1 12 s))

/-- `PUSH BC` (R134) -/
def execPushBC (s : State) : Result :=
  .next (pushPair .bc (retire 1 16 s))

/-- `POP DE` (R135) -/
def execPopDE (s : State) : Result :=
  .next (popPair .de (retire 1 12 s))

/-- `PUSH DE` (R134) -/
def execPushDE (s : State) : Result :=
  .next (pushPair .de (retire 1 16 s))

/-- `POP HL` (R135) -/
def execPopHL (s : State) : Result :=
  .next (popPair .hl (retire 1 12 s))

/-- `PUSH HL` (R134) -/
def execPushHL (s : State) : Result :=
  .next (pushPair .hl (retire 1 16 s))

/-- `POP AF` (R136) -/
def execPopAF (s : State) : Result :=
  .next (popPair .af (retire 1 12 s))

/-- `PUSH AF` (R134) -/
def execPushAF (s : State) : Result :=
  .next (pushPair .af (retire 1 16 s))

/-- `LD HL,SP+e8` (R133) -/
def execLdHLSPE8 (e : Byte) (s : State) : Result :=
  .next (loadHLSPOffset e (retire 2 12 s))

/-- `LD SP,HL` (R132) -/
def execLdSPHL (s : State) : Result :=
  .next (setPair .sp (getPair .hl s) (retire 1 8 s))

end Sys2Proof.Machine
end

