-- ==== Sys2Proof/Machine/Load8.lean ====
section
/-! DEFINITION. 8-bit loads and stores (spec/40_load8.md). A meaning runs with PC still at the instruction's first byte: `retire`
moves PC past the instruction and adds its cost, then come the effects (R16, R28, R80). -/

namespace Sys2Proof.Machine

/-- Copy one 8-bit operand to another (R101, R103, R104). -/
def load8 (dst src : Operand8) (s : State) : State := setOp8 dst (op8 src s) s

/-- An immediate byte to an 8-bit operand (R102, R105). -/
def loadImm8 (dst : Operand8) (v : Byte) (s : State) : State := setOp8 dst v s

/-- Load A from memory (R106, R107, R110, R112, R114, R118, R119). -/
def loadA (addr : Word) (s : State) : State := setReg8 .a (read8 addr s) s

/-- Store A to memory (R108, R109, R111, R113, R115, R116, R117). -/
def storeA (addr : Word) (s : State) : State := write8 addr s.a s

/-! ### The meanings -/

/-- `LD (BC),A` (R108) -/
def execLdIndBCA (s : State) : Result :=
  .next (storeA (getPair .bc s) (retire 1 8 s))

/-- `LD B,d8` (R102) -/
def execLdBD8 (v : Byte) (s : State) : Result :=
  .next (loadImm8 (.reg .b) v (retire 2 8 s))

/-- `LD A,(BC)` (R106) -/
def execLdAIndBC (s : State) : Result :=
  .next (loadA (getPair .bc s) (retire 1 8 s))

/-- `LD C,d8` (R102) -/
def execLdCD8 (v : Byte) (s : State) : Result :=
  .next (loadImm8 (.reg .c) v (retire 2 8 s))

/-- `LD (DE),A` (R109) -/
def execLdIndDEA (s : State) : Result :=
  .next (storeA (getPair .de s) (retire 1 8 s))

/-- `LD D,d8` (R102) -/
def execLdDD8 (v : Byte) (s : State) : Result :=
  .next (loadImm8 (.reg .d) v (retire 2 8 s))

/-- `LD A,(DE)` (R107) -/
def execLdAIndDE (s : State) : Result :=
  .next (loadA (getPair .de s) (retire 1 8 s))

/-- `LD E,d8` (R102) -/
def execLdED8 (v : Byte) (s : State) : Result :=
  .next (loadImm8 (.reg .e) v (retire 2 8 s))

/-- `LD (HL+),A` (R116) -/
def execLdIndHLIncA (s : State) : Result :=
  .next (incPair .hl (storeA (getPair .hl s) (retire 1 8 s)))

/-- `LD H,d8` (R102) -/
def execLdHD8 (v : Byte) (s : State) : Result :=
  .next (loadImm8 (.reg .h) v (retire 2 8 s))

/-- `LD A,(HL+)` (R118) -/
def execLdAIndHLInc (s : State) : Result :=
  .next (incPair .hl (loadA (getPair .hl s) (retire 1 8 s)))

/-- `LD L,d8` (R102) -/
def execLdLD8 (v : Byte) (s : State) : Result :=
  .next (loadImm8 (.reg .l) v (retire 2 8 s))

/-- `LD (HL-),A` (R117) -/
def execLdIndHLDecA (s : State) : Result :=
  .next (decPair .hl (storeA (getPair .hl s) (retire 1 8 s)))

/-- `LD (HL),d8` (R105) -/
def execLdIndHLD8 (v : Byte) (s : State) : Result :=
  .next (loadImm8 .hlMem v (retire 2 12 s))

/-- `LD A,(HL-)` (R119) -/
def execLdAIndHLDec (s : State) : Result :=
  .next (decPair .hl (loadA (getPair .hl s) (retire 1 8 s)))

/-- `LD A,d8` (R102) -/
def execLdAD8 (v : Byte) (s : State) : Result :=
  .next (loadImm8 (.reg .a) v (retire 2 8 s))

/-- `LD B,B` (R101) -/
def execLdBB (s : State) : Result :=
  .next (load8 (.reg .b) (.reg .b) (retire 1 4 s))

/-- `LD B,C` (R101) -/
def execLdBC (s : State) : Result :=
  .next (load8 (.reg .b) (.reg .c) (retire 1 4 s))

/-- `LD B,D` (R101) -/
def execLdBD (s : State) : Result :=
  .next (load8 (.reg .b) (.reg .d) (retire 1 4 s))

/-- `LD B,E` (R101) -/
def execLdBE (s : State) : Result :=
  .next (load8 (.reg .b) (.reg .e) (retire 1 4 s))

/-- `LD B,H` (R101) -/
def execLdBH (s : State) : Result :=
  .next (load8 (.reg .b) (.reg .h) (retire 1 4 s))

/-- `LD B,L` (R101) -/
def execLdBL (s : State) : Result :=
  .next (load8 (.reg .b) (.reg .l) (retire 1 4 s))

/-- `LD B,(HL)` (R103) -/
def execLdBIndHL (s : State) : Result :=
  .next (load8 (.reg .b) .hlMem (retire 1 8 s))

/-- `LD B,A` (R101) -/
def execLdBA (s : State) : Result :=
  .next (load8 (.reg .b) (.reg .a) (retire 1 4 s))

/-- `LD C,B` (R101) -/
def execLdCB (s : State) : Result :=
  .next (load8 (.reg .c) (.reg .b) (retire 1 4 s))

/-- `LD C,C` (R101) -/
def execLdCC (s : State) : Result :=
  .next (load8 (.reg .c) (.reg .c) (retire 1 4 s))

/-- `LD C,D` (R101) -/
def execLdCD (s : State) : Result :=
  .next (load8 (.reg .c) (.reg .d) (retire 1 4 s))

/-- `LD C,E` (R101) -/
def execLdCE (s : State) : Result :=
  .next (load8 (.reg .c) (.reg .e) (retire 1 4 s))

/-- `LD C,H` (R101) -/
def execLdCH (s : State) : Result :=
  .next (load8 (.reg .c) (.reg .h) (retire 1 4 s))

/-- `LD C,L` (R101) -/
def execLdCL (s : State) : Result :=
  .next (load8 (.reg .c) (.reg .l) (retire 1 4 s))

/-- `LD C,(HL)` (R103) -/
def execLdCIndHL (s : State) : Result :=
  .next (load8 (.reg .c) .hlMem (retire 1 8 s))

/-- `LD C,A` (R101) -/
def execLdCA (s : State) : Result :=
  .next (load8 (.reg .c) (.reg .a) (retire 1 4 s))

/-- `LD D,B` (R101) -/
def execLdDB (s : State) : Result :=
  .next (load8 (.reg .d) (.reg .b) (retire 1 4 s))

/-- `LD D,C` (R101) -/
def execLdDC (s : State) : Result :=
  .next (load8 (.reg .d) (.reg .c) (retire 1 4 s))

/-- `LD D,D` (R101) -/
def execLdDD (s : State) : Result :=
  .next (load8 (.reg .d) (.reg .d) (retire 1 4 s))

/-- `LD D,E` (R101) -/
def execLdDE (s : State) : Result :=
  .next (load8 (.reg .d) (.reg .e) (retire 1 4 s))

/-- `LD D,H` (R101) -/
def execLdDH (s : State) : Result :=
  .next (load8 (.reg .d) (.reg .h) (retire 1 4 s))

/-- `LD D,L` (R101) -/
def execLdDL (s : State) : Result :=
  .next (load8 (.reg .d) (.reg .l) (retire 1 4 s))

/-- `LD D,(HL)` (R103) -/
def execLdDIndHL (s : State) : Result :=
  .next (load8 (.reg .d) .hlMem (retire 1 8 s))

/-- `LD D,A` (R101) -/
def execLdDA (s : State) : Result :=
  .next (load8 (.reg .d) (.reg .a) (retire 1 4 s))

/-- `LD E,B` (R101) -/
def execLdEB (s : State) : Result :=
  .next (load8 (.reg .e) (.reg .b) (retire 1 4 s))

/-- `LD E,C` (R101) -/
def execLdEC (s : State) : Result :=
  .next (load8 (.reg .e) (.reg .c) (retire 1 4 s))

/-- `LD E,D` (R101) -/
def execLdED (s : State) : Result :=
  .next (load8 (.reg .e) (.reg .d) (retire 1 4 s))

/-- `LD E,E` (R101) -/
def execLdEE (s : State) : Result :=
  .next (load8 (.reg .e) (.reg .e) (retire 1 4 s))

/-- `LD E,H` (R101) -/
def execLdEH (s : State) : Result :=
  .next (load8 (.reg .e) (.reg .h) (retire 1 4 s))

/-- `LD E,L` (R101) -/
def execLdEL (s : State) : Result :=
  .next (load8 (.reg .e) (.reg .l) (retire 1 4 s))

/-- `LD E,(HL)` (R103) -/
def execLdEIndHL (s : State) : Result :=
  .next (load8 (.reg .e) .hlMem (retire 1 8 s))

/-- `LD E,A` (R101) -/
def execLdEA (s : State) : Result :=
  .next (load8 (.reg .e) (.reg .a) (retire 1 4 s))

/-- `LD H,B` (R101) -/
def execLdHB (s : State) : Result :=
  .next (load8 (.reg .h) (.reg .b) (retire 1 4 s))

/-- `LD H,C` (R101) -/
def execLdHC (s : State) : Result :=
  .next (load8 (.reg .h) (.reg .c) (retire 1 4 s))

/-- `LD H,D` (R101) -/
def execLdHD (s : State) : Result :=
  .next (load8 (.reg .h) (.reg .d) (retire 1 4 s))

/-- `LD H,E` (R101) -/
def execLdHE (s : State) : Result :=
  .next (load8 (.reg .h) (.reg .e) (retire 1 4 s))

/-- `LD H,H` (R101) -/
def execLdHH (s : State) : Result :=
  .next (load8 (.reg .h) (.reg .h) (retire 1 4 s))

/-- `LD H,L` (R101) -/
def execLdHL (s : State) : Result :=
  .next (load8 (.reg .h) (.reg .l) (retire 1 4 s))

/-- `LD H,(HL)` (R103) -/
def execLdHIndHL (s : State) : Result :=
  .next (load8 (.reg .h) .hlMem (retire 1 8 s))

/-- `LD H,A` (R101) -/
def execLdHA (s : State) : Result :=
  .next (load8 (.reg .h) (.reg .a) (retire 1 4 s))

/-- `LD L,B` (R101) -/
def execLdLB (s : State) : Result :=
  .next (load8 (.reg .l) (.reg .b) (retire 1 4 s))

/-- `LD L,C` (R101) -/
def execLdLC (s : State) : Result :=
  .next (load8 (.reg .l) (.reg .c) (retire 1 4 s))

/-- `LD L,D` (R101) -/
def execLdLD (s : State) : Result :=
  .next (load8 (.reg .l) (.reg .d) (retire 1 4 s))

/-- `LD L,E` (R101) -/
def execLdLE (s : State) : Result :=
  .next (load8 (.reg .l) (.reg .e) (retire 1 4 s))

/-- `LD L,H` (R101) -/
def execLdLH (s : State) : Result :=
  .next (load8 (.reg .l) (.reg .h) (retire 1 4 s))

/-- `LD L,L` (R101) -/
def execLdLL (s : State) : Result :=
  .next (load8 (.reg .l) (.reg .l) (retire 1 4 s))

/-- `LD L,(HL)` (R103) -/
def execLdLIndHL (s : State) : Result :=
  .next (load8 (.reg .l) .hlMem (retire 1 8 s))

/-- `LD L,A` (R101) -/
def execLdLA (s : State) : Result :=
  .next (load8 (.reg .l) (.reg .a) (retire 1 4 s))

/-- `LD (HL),B` (R104) -/
def execLdIndHLB (s : State) : Result :=
  .next (load8 .hlMem (.reg .b) (retire 1 8 s))

/-- `LD (HL),C` (R104) -/
def execLdIndHLC (s : State) : Result :=
  .next (load8 .hlMem (.reg .c) (retire 1 8 s))

/-- `LD (HL),D` (R104) -/
def execLdIndHLD (s : State) : Result :=
  .next (load8 .hlMem (.reg .d) (retire 1 8 s))

/-- `LD (HL),E` (R104) -/
def execLdIndHLE (s : State) : Result :=
  .next (load8 .hlMem (.reg .e) (retire 1 8 s))

/-- `LD (HL),H` (R104) -/
def execLdIndHLH (s : State) : Result :=
  .next (load8 .hlMem (.reg .h) (retire 1 8 s))

/-- `LD (HL),L` (R104) -/
def execLdIndHLL (s : State) : Result :=
  .next (load8 .hlMem (.reg .l) (retire 1 8 s))

/-- `LD (HL),A` (R104) -/
def execLdIndHLA (s : State) : Result :=
  .next (load8 .hlMem (.reg .a) (retire 1 8 s))

/-- `LD A,B` (R101) -/
def execLdAB (s : State) : Result :=
  .next (load8 (.reg .a) (.reg .b) (retire 1 4 s))

/-- `LD A,C` (R101) -/
def execLdAC (s : State) : Result :=
  .next (load8 (.reg .a) (.reg .c) (retire 1 4 s))

/-- `LD A,D` (R101) -/
def execLdAD (s : State) : Result :=
  .next (load8 (.reg .a) (.reg .d) (retire 1 4 s))

/-- `LD A,E` (R101) -/
def execLdAE (s : State) : Result :=
  .next (load8 (.reg .a) (.reg .e) (retire 1 4 s))

/-- `LD A,H` (R101) -/
def execLdAH (s : State) : Result :=
  .next (load8 (.reg .a) (.reg .h) (retire 1 4 s))

/-- `LD A,L` (R101) -/
def execLdAL (s : State) : Result :=
  .next (load8 (.reg .a) (.reg .l) (retire 1 4 s))

/-- `LD A,(HL)` (R103) -/
def execLdAIndHL (s : State) : Result :=
  .next (load8 (.reg .a) .hlMem (retire 1 8 s))

/-- `LD A,A` (R101) -/
def execLdAA (s : State) : Result :=
  .next (load8 (.reg .a) (.reg .a) (retire 1 4 s))

/-- `LDH (a8),A` (R113) -/
def execLdhIndA8A (n : Byte) (s : State) : Result :=
  .next (storeA (ioAddr n) (retire 2 12 s))

/-- `LD (C),A` (R115) -/
def execLdIndCA (s : State) : Result :=
  .next (storeA (ioAddr s.c) (retire 1 8 s))

/-- `LD (a16),A` (R111) -/
def execLdIndA16A (a : Word) (s : State) : Result :=
  .next (storeA a (retire 3 16 s))

/-- `LDH A,(a8)` (R112) -/
def execLdhAIndA8 (n : Byte) (s : State) : Result :=
  .next (loadA (ioAddr n) (retire 2 12 s))

/-- `LD A,(C)` (R114) -/
def execLdAIndC (s : State) : Result :=
  .next (loadA (ioAddr s.c) (retire 1 8 s))

/-- `LD A,(a16)` (R110) -/
def execLdAIndA16 (a : Word) (s : State) : Result :=
  .next (loadA a (retire 3 16 s))

end Sys2Proof.Machine
end

