-- ==== Sys2Proof/Machine/Misc.lean ====
section
/-! DEFINITION. NOP, DI, EI, HALT, STOP, the undefined bytes and the 0xCB byte (spec/46_misc.md). A meaning runs with PC still at the instruction's first byte: `retire`
moves PC past the instruction and adds its cost, then come the effects (R16, R28, R80). -/

namespace Sys2Proof.Machine

/-- Write the interrupt-master-enable latch at once (R251, R252, R307). -/
def setIme (v : Bool) (s : State) : State := { s with ime := v }

/-! ### The meanings -/

/-- `NOP` (R250) -/
def execNop (s : State) : Result :=
  .next (retire 1 4 s)

/-- `STOP` (R254) -/
def execStop (s : State) : Result :=
  .next (raiseUnimplemented [0x10] s)

/-- `HALT` (R253) -/
def execHalt (s : State) : Result :=
  .next (raiseUnimplemented [0x76] s)

/-- `PREFIX CB` (R256) -/
def execPrefixCb (op2 : Byte) (s : State) : Result :=
  .next (raiseUnimplemented [0xCB, op2] s)

/-- `UNDEFINED_D3` (R255) -/
def execUndefinedD3 (s : State) : Result :=
  .next (raiseUnimplemented [0xD3] s)

/-- `UNDEFINED_DB` (R255) -/
def execUndefinedDB (s : State) : Result :=
  .next (raiseUnimplemented [0xDB] s)

/-- `UNDEFINED_DD` (R255) -/
def execUndefinedDD (s : State) : Result :=
  .next (raiseUnimplemented [0xDD] s)

/-- `UNDEFINED_E3` (R255) -/
def execUndefinedE3 (s : State) : Result :=
  .next (raiseUnimplemented [0xE3] s)

/-- `UNDEFINED_E4` (R255) -/
def execUndefinedE4 (s : State) : Result :=
  .next (raiseUnimplemented [0xE4] s)

/-- `UNDEFINED_EB` (R255) -/
def execUndefinedEB (s : State) : Result :=
  .next (raiseUnimplemented [0xEB] s)

/-- `UNDEFINED_EC` (R255) -/
def execUndefinedEC (s : State) : Result :=
  .next (raiseUnimplemented [0xEC] s)

/-- `UNDEFINED_ED` (R255) -/
def execUndefinedED (s : State) : Result :=
  .next (raiseUnimplemented [0xED] s)

/-- `DI` (R251) -/
def execDi (s : State) : Result :=
  .next (setIme false (retire 1 4 s))

/-- `UNDEFINED_F4` (R255) -/
def execUndefinedF4 (s : State) : Result :=
  .next (raiseUnimplemented [0xF4] s)

/-- `EI` (R252) -/
def execEi (s : State) : Result :=
  .next (setIme true (retire 1 4 s))

/-- `UNDEFINED_FC` (R255) -/
def execUndefinedFC (s : State) : Result :=
  .next (raiseUnimplemented [0xFC] s)

/-- `UNDEFINED_FD` (R255) -/
def execUndefinedFD (s : State) : Result :=
  .next (raiseUnimplemented [0xFD] s)

end Sys2Proof.Machine
end

