-- ==== Sys2Proof/Machine/Rotate.lean ====
section
/-! DEFINITION. Rotates and shifts (spec/44_rotate_shift_bit.md R200 to R220). A meaning runs with PC still at the instruction's first byte: `retire`
moves PC past the instruction and adds its cost, then come the effects (R16, R28, R80). -/

namespace Sys2Proof.Machine

/-- An accumulator rotate: as the CB operation on A, but Z is cleared (R200 to R203). -/
def rotateA (op : RotOp) (s : State) : State :=
  let o := rotate op s.a (flagC s)
  putFlags (some false) (some false) (some false) (some o.2) (setReg8 .a o.1 s)

/-- A rotate or shift of the CB page (R204 to R220). -/
def rotateOp (op : RotOp) (o : Operand8) (s : State) : State :=
  let r := rotate op (op8 o s) (flagC s)
  putAllFlags (r.1 == 0) false false r.2 (setOp8 o r.1 s)

/-! ### The meanings -/

/-- `RLCA` (R200) -/
def execRlca (s : State) : Result :=
  .next (rotateA .rlc (retire 1 4 s))

/-- `RRCA` (R201) -/
def execRrca (s : State) : Result :=
  .next (rotateA .rrc (retire 1 4 s))

/-- `RLA` (R202) -/
def execRla (s : State) : Result :=
  .next (rotateA .rl (retire 1 4 s))

/-- `RRA` (R203) -/
def execRra (s : State) : Result :=
  .next (rotateA .rr (retire 1 4 s))

/-- `RLC B` (R205) -/
def execRlcB (s : State) : Result :=
  .next (rotateOp .rlc (.reg .b) (retire 2 8 s))

/-- `RLC C` (R205) -/
def execRlcC (s : State) : Result :=
  .next (rotateOp .rlc (.reg .c) (retire 2 8 s))

/-- `RLC D` (R205) -/
def execRlcD (s : State) : Result :=
  .next (rotateOp .rlc (.reg .d) (retire 2 8 s))

/-- `RLC E` (R205) -/
def execRlcE (s : State) : Result :=
  .next (rotateOp .rlc (.reg .e) (retire 2 8 s))

/-- `RLC H` (R205) -/
def execRlcH (s : State) : Result :=
  .next (rotateOp .rlc (.reg .h) (retire 2 8 s))

/-- `RLC L` (R205) -/
def execRlcL (s : State) : Result :=
  .next (rotateOp .rlc (.reg .l) (retire 2 8 s))

/-- `RLC (HL)` (R206) -/
def execRlcIndHL (s : State) : Result :=
  .next (rotateOp .rlc .hlMem (retire 2 16 s))

/-- `RLC A` (R205) -/
def execRlcA (s : State) : Result :=
  .next (rotateOp .rlc (.reg .a) (retire 2 8 s))

/-- `RRC B` (R207) -/
def execRrcB (s : State) : Result :=
  .next (rotateOp .rrc (.reg .b) (retire 2 8 s))

/-- `RRC C` (R207) -/
def execRrcC (s : State) : Result :=
  .next (rotateOp .rrc (.reg .c) (retire 2 8 s))

/-- `RRC D` (R207) -/
def execRrcD (s : State) : Result :=
  .next (rotateOp .rrc (.reg .d) (retire 2 8 s))

/-- `RRC E` (R207) -/
def execRrcE (s : State) : Result :=
  .next (rotateOp .rrc (.reg .e) (retire 2 8 s))

/-- `RRC H` (R207) -/
def execRrcH (s : State) : Result :=
  .next (rotateOp .rrc (.reg .h) (retire 2 8 s))

/-- `RRC L` (R207) -/
def execRrcL (s : State) : Result :=
  .next (rotateOp .rrc (.reg .l) (retire 2 8 s))

/-- `RRC (HL)` (R208) -/
def execRrcIndHL (s : State) : Result :=
  .next (rotateOp .rrc .hlMem (retire 2 16 s))

/-- `RRC A` (R207) -/
def execRrcA (s : State) : Result :=
  .next (rotateOp .rrc (.reg .a) (retire 2 8 s))

/-- `RL B` (R209) -/
def execRlB (s : State) : Result :=
  .next (rotateOp .rl (.reg .b) (retire 2 8 s))

/-- `RL C` (R209) -/
def execRlC (s : State) : Result :=
  .next (rotateOp .rl (.reg .c) (retire 2 8 s))

/-- `RL D` (R209) -/
def execRlD (s : State) : Result :=
  .next (rotateOp .rl (.reg .d) (retire 2 8 s))

/-- `RL E` (R209) -/
def execRlE (s : State) : Result :=
  .next (rotateOp .rl (.reg .e) (retire 2 8 s))

/-- `RL H` (R209) -/
def execRlH (s : State) : Result :=
  .next (rotateOp .rl (.reg .h) (retire 2 8 s))

/-- `RL L` (R209) -/
def execRlL (s : State) : Result :=
  .next (rotateOp .rl (.reg .l) (retire 2 8 s))

/-- `RL (HL)` (R210) -/
def execRlIndHL (s : State) : Result :=
  .next (rotateOp .rl .hlMem (retire 2 16 s))

/-- `RL A` (R209) -/
def execRlA (s : State) : Result :=
  .next (rotateOp .rl (.reg .a) (retire 2 8 s))

/-- `RR B` (R211) -/
def execRrB (s : State) : Result :=
  .next (rotateOp .rr (.reg .b) (retire 2 8 s))

/-- `RR C` (R211) -/
def execRrC (s : State) : Result :=
  .next (rotateOp .rr (.reg .c) (retire 2 8 s))

/-- `RR D` (R211) -/
def execRrD (s : State) : Result :=
  .next (rotateOp .rr (.reg .d) (retire 2 8 s))

/-- `RR E` (R211) -/
def execRrE (s : State) : Result :=
  .next (rotateOp .rr (.reg .e) (retire 2 8 s))

/-- `RR H` (R211) -/
def execRrH (s : State) : Result :=
  .next (rotateOp .rr (.reg .h) (retire 2 8 s))

/-- `RR L` (R211) -/
def execRrL (s : State) : Result :=
  .next (rotateOp .rr (.reg .l) (retire 2 8 s))

/-- `RR (HL)` (R212) -/
def execRrIndHL (s : State) : Result :=
  .next (rotateOp .rr .hlMem (retire 2 16 s))

/-- `RR A` (R211) -/
def execRrA (s : State) : Result :=
  .next (rotateOp .rr (.reg .a) (retire 2 8 s))

/-- `SLA B` (R213) -/
def execSlaB (s : State) : Result :=
  .next (rotateOp .sla (.reg .b) (retire 2 8 s))

/-- `SLA C` (R213) -/
def execSlaC (s : State) : Result :=
  .next (rotateOp .sla (.reg .c) (retire 2 8 s))

/-- `SLA D` (R213) -/
def execSlaD (s : State) : Result :=
  .next (rotateOp .sla (.reg .d) (retire 2 8 s))

/-- `SLA E` (R213) -/
def execSlaE (s : State) : Result :=
  .next (rotateOp .sla (.reg .e) (retire 2 8 s))

/-- `SLA H` (R213) -/
def execSlaH (s : State) : Result :=
  .next (rotateOp .sla (.reg .h) (retire 2 8 s))

/-- `SLA L` (R213) -/
def execSlaL (s : State) : Result :=
  .next (rotateOp .sla (.reg .l) (retire 2 8 s))

/-- `SLA (HL)` (R214) -/
def execSlaIndHL (s : State) : Result :=
  .next (rotateOp .sla .hlMem (retire 2 16 s))

/-- `SLA A` (R213) -/
def execSlaA (s : State) : Result :=
  .next (rotateOp .sla (.reg .a) (retire 2 8 s))

/-- `SRA B` (R215) -/
def execSraB (s : State) : Result :=
  .next (rotateOp .sra (.reg .b) (retire 2 8 s))

/-- `SRA C` (R215) -/
def execSraC (s : State) : Result :=
  .next (rotateOp .sra (.reg .c) (retire 2 8 s))

/-- `SRA D` (R215) -/
def execSraD (s : State) : Result :=
  .next (rotateOp .sra (.reg .d) (retire 2 8 s))

/-- `SRA E` (R215) -/
def execSraE (s : State) : Result :=
  .next (rotateOp .sra (.reg .e) (retire 2 8 s))

/-- `SRA H` (R215) -/
def execSraH (s : State) : Result :=
  .next (rotateOp .sra (.reg .h) (retire 2 8 s))

/-- `SRA L` (R215) -/
def execSraL (s : State) : Result :=
  .next (rotateOp .sra (.reg .l) (retire 2 8 s))

/-- `SRA (HL)` (R216) -/
def execSraIndHL (s : State) : Result :=
  .next (rotateOp .sra .hlMem (retire 2 16 s))

/-- `SRA A` (R215) -/
def execSraA (s : State) : Result :=
  .next (rotateOp .sra (.reg .a) (retire 2 8 s))

/-- `SWAP B` (R217) -/
def execSwapB (s : State) : Result :=
  .next (rotateOp .swap (.reg .b) (retire 2 8 s))

/-- `SWAP C` (R217) -/
def execSwapC (s : State) : Result :=
  .next (rotateOp .swap (.reg .c) (retire 2 8 s))

/-- `SWAP D` (R217) -/
def execSwapD (s : State) : Result :=
  .next (rotateOp .swap (.reg .d) (retire 2 8 s))

/-- `SWAP E` (R217) -/
def execSwapE (s : State) : Result :=
  .next (rotateOp .swap (.reg .e) (retire 2 8 s))

/-- `SWAP H` (R217) -/
def execSwapH (s : State) : Result :=
  .next (rotateOp .swap (.reg .h) (retire 2 8 s))

/-- `SWAP L` (R217) -/
def execSwapL (s : State) : Result :=
  .next (rotateOp .swap (.reg .l) (retire 2 8 s))

/-- `SWAP (HL)` (R218) -/
def execSwapIndHL (s : State) : Result :=
  .next (rotateOp .swap .hlMem (retire 2 16 s))

/-- `SWAP A` (R217) -/
def execSwapA (s : State) : Result :=
  .next (rotateOp .swap (.reg .a) (retire 2 8 s))

/-- `SRL B` (R219) -/
def execSrlB (s : State) : Result :=
  .next (rotateOp .srl (.reg .b) (retire 2 8 s))

/-- `SRL C` (R219) -/
def execSrlC (s : State) : Result :=
  .next (rotateOp .srl (.reg .c) (retire 2 8 s))

/-- `SRL D` (R219) -/
def execSrlD (s : State) : Result :=
  .next (rotateOp .srl (.reg .d) (retire 2 8 s))

/-- `SRL E` (R219) -/
def execSrlE (s : State) : Result :=
  .next (rotateOp .srl (.reg .e) (retire 2 8 s))

/-- `SRL H` (R219) -/
def execSrlH (s : State) : Result :=
  .next (rotateOp .srl (.reg .h) (retire 2 8 s))

/-- `SRL L` (R219) -/
def execSrlL (s : State) : Result :=
  .next (rotateOp .srl (.reg .l) (retire 2 8 s))

/-- `SRL (HL)` (R220) -/
def execSrlIndHL (s : State) : Result :=
  .next (rotateOp .srl .hlMem (retire 2 16 s))

/-- `SRL A` (R219) -/
def execSrlA (s : State) : Result :=
  .next (rotateOp .srl (.reg .a) (retire 2 8 s))

end Sys2Proof.Machine
end

