-- ==== Sys2Proof/Machine/Dispatch.lean ====
section
/-! DEFINITION. The meaning of every instruction: one arm per constructor of Instr, each one call of its meaning. -/

namespace Sys2Proof.Machine

/-- What an instruction does (the CPU step of R80 after decoding, without the display ticks of R301). -/
def exec (i : Instr) (s : State) : Host.Outcome State Fault Refusal :=
  match i with
  | .nop => Sys2Proof.Machine.execNop s
  | .ldBCD16 v => Sys2Proof.Machine.execLdBCD16 v s
  | .ldIndBCA => Sys2Proof.Machine.execLdIndBCA s
  | .incBC => Sys2Proof.Machine.execIncBC s
  | .incB => Sys2Proof.Machine.execIncB s
  | .decB => Sys2Proof.Machine.execDecB s
  | .ldBD8 v => Sys2Proof.Machine.execLdBD8 v s
  | .rlca => Sys2Proof.Machine.execRlca s
  | .ldIndA16SP a => Sys2Proof.Machine.execLdIndA16SP a s
  | .addHLBC => Sys2Proof.Machine.execAddHLBC s
  | .ldAIndBC => Sys2Proof.Machine.execLdAIndBC s
  | .decBC => Sys2Proof.Machine.execDecBC s
  | .incC => Sys2Proof.Machine.execIncC s
  | .decC => Sys2Proof.Machine.execDecC s
  | .ldCD8 v => Sys2Proof.Machine.execLdCD8 v s
  | .rrca => Sys2Proof.Machine.execRrca s
  | .stop => Sys2Proof.Machine.execStop s
  | .ldDED16 v => Sys2Proof.Machine.execLdDED16 v s
  | .ldIndDEA => Sys2Proof.Machine.execLdIndDEA s
  | .incDE => Sys2Proof.Machine.execIncDE s
  | .incD => Sys2Proof.Machine.execIncD s
  | .decD => Sys2Proof.Machine.execDecD s
  | .ldDD8 v => Sys2Proof.Machine.execLdDD8 v s
  | .rla => Sys2Proof.Machine.execRla s
  | .jrE8 e => Sys2Proof.Machine.execJrE8 e s
  | .addHLDE => Sys2Proof.Machine.execAddHLDE s
  | .ldAIndDE => Sys2Proof.Machine.execLdAIndDE s
  | .decDE => Sys2Proof.Machine.execDecDE s
  | .incE => Sys2Proof.Machine.execIncE s
  | .decE => Sys2Proof.Machine.execDecE s
  | .ldED8 v => Sys2Proof.Machine.execLdED8 v s
  | .rra => Sys2Proof.Machine.execRra s
  | .jrNZE8 e => Sys2Proof.Machine.execJrNZE8 e s
  | .ldHLD16 v => Sys2Proof.Machine.execLdHLD16 v s
  | .ldIndHLIncA => Sys2Proof.Machine.execLdIndHLIncA s
  | .incHL => Sys2Proof.Machine.execIncHL s
  | .incH => Sys2Proof.Machine.execIncH s
  | .decH => Sys2Proof.Machine.execDecH s
  | .ldHD8 v => Sys2Proof.Machine.execLdHD8 v s
  | .daa => Sys2Proof.Machine.execDaa s
  | .jrZE8 e => Sys2Proof.Machine.execJrZE8 e s
  | .addHLHL => Sys2Proof.Machine.execAddHLHL s
  | .ldAIndHLInc => Sys2Proof.Machine.execLdAIndHLInc s
  | .decHL => Sys2Proof.Machine.execDecHL s
  | .incL => Sys2Proof.Machine.execIncL s
  | .decL => Sys2Proof.Machine.execDecL s
  | .ldLD8 v => Sys2Proof.Machine.execLdLD8 v s
  | .cpl => Sys2Proof.Machine.execCpl s
  | .jrNCE8 e => Sys2Proof.Machine.execJrNCE8 e s
  | .ldSPD16 v => Sys2Proof.Machine.execLdSPD16 v s
  | .ldIndHLDecA => Sys2Proof.Machine.execLdIndHLDecA s
  | .incSP => Sys2Proof.Machine.execIncSP s
  | .incIndHL => Sys2Proof.Machine.execIncIndHL s
  | .decIndHL => Sys2Proof.Machine.execDecIndHL s
  | .ldIndHLD8 v => Sys2Proof.Machine.execLdIndHLD8 v s
  | .scf => Sys2Proof.Machine.execScf s
  | .jrCE8 e => Sys2Proof.Machine.execJrCE8 e s
  | .addHLSP => Sys2Proof.Machine.execAddHLSP s
  | .ldAIndHLDec => Sys2Proof.Machine.execLdAIndHLDec s
  | .decSP => Sys2Proof.Machine.execDecSP s
  | .incA => Sys2Proof.Machine.execIncA s
  | .decA => Sys2Proof.Machine.execDecA s
  | .ldAD8 v => Sys2Proof.Machine.execLdAD8 v s
  | .ccf => Sys2Proof.Machine.execCcf s
  | .ldBB => Sys2Proof.Machine.execLdBB s
  | .ldBC => Sys2Proof.Machine.execLdBC s
  | .ldBD => Sys2Proof.Machine.execLdBD s
  | .ldBE => Sys2Proof.Machine.execLdBE s
  | .ldBH => Sys2Proof.Machine.execLdBH s
  | .ldBL => Sys2Proof.Machine.execLdBL s
  | .ldBIndHL => Sys2Proof.Machine.execLdBIndHL s
  | .ldBA => Sys2Proof.Machine.execLdBA s
  | .ldCB => Sys2Proof.Machine.execLdCB s
  | .ldCC => Sys2Proof.Machine.execLdCC s
  | .ldCD => Sys2Proof.Machine.execLdCD s
  | .ldCE => Sys2Proof.Machine.execLdCE s
  | .ldCH => Sys2Proof.Machine.execLdCH s
  | .ldCL => Sys2Proof.Machine.execLdCL s
  | .ldCIndHL => Sys2Proof.Machine.execLdCIndHL s
  | .ldCA => Sys2Proof.Machine.execLdCA s
  | .ldDB => Sys2Proof.Machine.execLdDB s
  | .ldDC => Sys2Proof.Machine.execLdDC s
  | .ldDD => Sys2Proof.Machine.execLdDD s
  | .ldDE => Sys2Proof.Machine.execLdDE s
  | .ldDH => Sys2Proof.Machine.execLdDH s
  | .ldDL => Sys2Proof.Machine.execLdDL s
  | .ldDIndHL => Sys2Proof.Machine.execLdDIndHL s
  | .ldDA => Sys2Proof.Machine.execLdDA s
  | .ldEB => Sys2Proof.Machine.execLdEB s
  | .ldEC => Sys2Proof.Machine.execLdEC s
  | .ldED => Sys2Proof.Machine.execLdED s
  | .ldEE => Sys2Proof.Machine.execLdEE s
  | .ldEH => Sys2Proof.Machine.execLdEH s
  | .ldEL => Sys2Proof.Machine.execLdEL s
  | .ldEIndHL => Sys2Proof.Machine.execLdEIndHL s
  | .ldEA => Sys2Proof.Machine.execLdEA s
  | .ldHB => Sys2Proof.Machine.execLdHB s
  | .ldHC => Sys2Proof.Machine.execLdHC s
  | .ldHD => Sys2Proof.Machine.execLdHD s
  | .ldHE => Sys2Proof.Machine.execLdHE s
  | .ldHH => Sys2Proof.Machine.execLdHH s
  | .ldHL => Sys2Proof.Machine.execLdHL s
  | .ldHIndHL => Sys2Proof.Machine.execLdHIndHL s
  | .ldHA => Sys2Proof.Machine.execLdHA s
  | .ldLB => Sys2Proof.Machine.execLdLB s
  | .ldLC => Sys2Proof.Machine.execLdLC s
  | .ldLD => Sys2Proof.Machine.execLdLD s
  | .ldLE => Sys2Proof.Machine.execLdLE s
  | .ldLH => Sys2Proof.Machine.execLdLH s
  | .ldLL => Sys2Proof.Machine.execLdLL s
  | .ldLIndHL => Sys2Proof.Machine.execLdLIndHL s
  | .ldLA => Sys2Proof.Machine.execLdLA s
  | .ldIndHLB => Sys2Proof.Machine.execLdIndHLB s
  | .ldIndHLC => Sys2Proof.Machine.execLdIndHLC s
  | .ldIndHLD => Sys2Proof.Machine.execLdIndHLD s
  | .ldIndHLE => Sys2Proof.Machine.execLdIndHLE s
  | .ldIndHLH => Sys2Proof.Machine.execLdIndHLH s
  | .ldIndHLL => Sys2Proof.Machine.execLdIndHLL s
  | .halt => Sys2Proof.Machine.execHalt s
  | .ldIndHLA => Sys2Proof.Machine.execLdIndHLA s
  | .ldAB => Sys2Proof.Machine.execLdAB s
  | .ldAC => Sys2Proof.Machine.execLdAC s
  | .ldAD => Sys2Proof.Machine.execLdAD s
  | .ldAE => Sys2Proof.Machine.execLdAE s
  | .ldAH => Sys2Proof.Machine.execLdAH s
  | .ldAL => Sys2Proof.Machine.execLdAL s
  | .ldAIndHL => Sys2Proof.Machine.execLdAIndHL s
  | .ldAA => Sys2Proof.Machine.execLdAA s
  | .addAB => Sys2Proof.Machine.execAddAB s
  | .addAC => Sys2Proof.Machine.execAddAC s
  | .addAD => Sys2Proof.Machine.execAddAD s
  | .addAE => Sys2Proof.Machine.execAddAE s
  | .addAH => Sys2Proof.Machine.execAddAH s
  | .addAL => Sys2Proof.Machine.execAddAL s
  | .addAIndHL => Sys2Proof.Machine.execAddAIndHL s
  | .addAA => Sys2Proof.Machine.execAddAA s
  | .adcAB => Sys2Proof.Machine.execAdcAB s
  | .adcAC => Sys2Proof.Machine.execAdcAC s
  | .adcAD => Sys2Proof.Machine.execAdcAD s
  | .adcAE => Sys2Proof.Machine.execAdcAE s
  | .adcAH => Sys2Proof.Machine.execAdcAH s
  | .adcAL => Sys2Proof.Machine.execAdcAL s
  | .adcAIndHL => Sys2Proof.Machine.execAdcAIndHL s
  | .adcAA => Sys2Proof.Machine.execAdcAA s
  | .subB => Sys2Proof.Machine.execSubB s
  | .subC => Sys2Proof.Machine.execSubC s
  | .subD => Sys2Proof.Machine.execSubD s
  | .subE => Sys2Proof.Machine.execSubE s
  | .subH => Sys2Proof.Machine.execSubH s
  | .subL => Sys2Proof.Machine.execSubL s
  | .subIndHL => Sys2Proof.Machine.execSubIndHL s
  | .subA => Sys2Proof.Machine.execSubA s
  | .sbcAB => Sys2Proof.Machine.execSbcAB s
  | .sbcAC => Sys2Proof.Machine.execSbcAC s
  | .sbcAD => Sys2Proof.Machine.execSbcAD s
  | .sbcAE => Sys2Proof.Machine.execSbcAE s
  | .sbcAH => Sys2Proof.Machine.execSbcAH s
  | .sbcAL => Sys2Proof.Machine.execSbcAL s
  | .sbcAIndHL => Sys2Proof.Machine.execSbcAIndHL s
  | .sbcAA => Sys2Proof.Machine.execSbcAA s
  | .andB => Sys2Proof.Machine.execAndB s
  | .andC => Sys2Proof.Machine.execAndC s
  | .andD => Sys2Proof.Machine.execAndD s
  | .andE => Sys2Proof.Machine.execAndE s
  | .andH => Sys2Proof.Machine.execAndH s
  | .andL => Sys2Proof.Machine.execAndL s
  | .andIndHL => Sys2Proof.Machine.execAndIndHL s
  | .andA => Sys2Proof.Machine.execAndA s
  | .xorB => Sys2Proof.Machine.execXorB s
  | .xorC => Sys2Proof.Machine.execXorC s
  | .xorD => Sys2Proof.Machine.execXorD s
  | .xorE => Sys2Proof.Machine.execXorE s
  | .xorH => Sys2Proof.Machine.execXorH s
  | .xorL => Sys2Proof.Machine.execXorL s
  | .xorIndHL => Sys2Proof.Machine.execXorIndHL s
  | .xorA => Sys2Proof.Machine.execXorA s
  | .orB => Sys2Proof.Machine.execOrB s
  | .orC => Sys2Proof.Machine.execOrC s
  | .orD => Sys2Proof.Machine.execOrD s
  | .orE => Sys2Proof.Machine.execOrE s
  | .orH => Sys2Proof.Machine.execOrH s
  | .orL => Sys2Proof.Machine.execOrL s
  | .orIndHL => Sys2Proof.Machine.execOrIndHL s
  | .orA => Sys2Proof.Machine.execOrA s
  | .cpB => Sys2Proof.Machine.execCpB s
  | .cpC => Sys2Proof.Machine.execCpC s
  | .cpD => Sys2Proof.Machine.execCpD s
  | .cpE => Sys2Proof.Machine.execCpE s
  | .cpH => Sys2Proof.Machine.execCpH s
  | .cpL => Sys2Proof.Machine.execCpL s
  | .cpIndHL => Sys2Proof.Machine.execCpIndHL s
  | .cpA => Sys2Proof.Machine.execCpA s
  | .retNZ => Sys2Proof.Machine.execRetNZ s
  | .popBC => Sys2Proof.Machine.execPopBC s
  | .jpNZA16 t => Sys2Proof.Machine.execJpNZA16 t s
  | .jpA16 t => Sys2Proof.Machine.execJpA16 t s
  | .callNZA16 t => Sys2Proof.Machine.execCallNZA16 t s
  | .pushBC => Sys2Proof.Machine.execPushBC s
  | .addAD8 v => Sys2Proof.Machine.execAddAD8 v s
  | .rst00 => Sys2Proof.Machine.execRst00 s
  | .retZ => Sys2Proof.Machine.execRetZ s
  | .ret => Sys2Proof.Machine.execRet s
  | .jpZA16 t => Sys2Proof.Machine.execJpZA16 t s
  | .prefixCb op2 => Sys2Proof.Machine.execPrefixCb op2 s
  | .callZA16 t => Sys2Proof.Machine.execCallZA16 t s
  | .callA16 t => Sys2Proof.Machine.execCallA16 t s
  | .adcAD8 v => Sys2Proof.Machine.execAdcAD8 v s
  | .rst08 => Sys2Proof.Machine.execRst08 s
  | .retNC => Sys2Proof.Machine.execRetNC s
  | .popDE => Sys2Proof.Machine.execPopDE s
  | .jpNCA16 t => Sys2Proof.Machine.execJpNCA16 t s
  | .undefinedD3 => Sys2Proof.Machine.execUndefinedD3 s
  | .callNCA16 t => Sys2Proof.Machine.execCallNCA16 t s
  | .pushDE => Sys2Proof.Machine.execPushDE s
  | .subD8 v => Sys2Proof.Machine.execSubD8 v s
  | .rst10 => Sys2Proof.Machine.execRst10 s
  | .retC => Sys2Proof.Machine.execRetC s
  | .reti => Sys2Proof.Machine.execReti s
  | .jpCA16 t => Sys2Proof.Machine.execJpCA16 t s
  | .undefinedDB => Sys2Proof.Machine.execUndefinedDB s
  | .callCA16 t => Sys2Proof.Machine.execCallCA16 t s
  | .undefinedDD => Sys2Proof.Machine.execUndefinedDD s
  | .sbcAD8 v => Sys2Proof.Machine.execSbcAD8 v s
  | .rst18 => Sys2Proof.Machine.execRst18 s
  | .ldhIndA8A n => Sys2Proof.Machine.execLdhIndA8A n s
  | .popHL => Sys2Proof.Machine.execPopHL s
  | .ldIndCA => Sys2Proof.Machine.execLdIndCA s
  | .undefinedE3 => Sys2Proof.Machine.execUndefinedE3 s
  | .undefinedE4 => Sys2Proof.Machine.execUndefinedE4 s
  | .pushHL => Sys2Proof.Machine.execPushHL s
  | .andD8 v => Sys2Proof.Machine.execAndD8 v s
  | .rst20 => Sys2Proof.Machine.execRst20 s
  | .addSPE8 e => Sys2Proof.Machine.execAddSPE8 e s
  | .jpHL => Sys2Proof.Machine.execJpHL s
  | .ldIndA16A a => Sys2Proof.Machine.execLdIndA16A a s
  | .undefinedEB => Sys2Proof.Machine.execUndefinedEB s
  | .undefinedEC => Sys2Proof.Machine.execUndefinedEC s
  | .undefinedED => Sys2Proof.Machine.execUndefinedED s
  | .xorD8 v => Sys2Proof.Machine.execXorD8 v s
  | .rst28 => Sys2Proof.Machine.execRst28 s
  | .ldhAIndA8 n => Sys2Proof.Machine.execLdhAIndA8 n s
  | .popAF => Sys2Proof.Machine.execPopAF s
  | .ldAIndC => Sys2Proof.Machine.execLdAIndC s
  | .di => Sys2Proof.Machine.execDi s
  | .undefinedF4 => Sys2Proof.Machine.execUndefinedF4 s
  | .pushAF => Sys2Proof.Machine.execPushAF s
  | .orD8 v => Sys2Proof.Machine.execOrD8 v s
  | .rst30 => Sys2Proof.Machine.execRst30 s
  | .ldHLSPE8 e => Sys2Proof.Machine.execLdHLSPE8 e s
  | .ldSPHL => Sys2Proof.Machine.execLdSPHL s
  | .ldAIndA16 a => Sys2Proof.Machine.execLdAIndA16 a s
  | .ei => Sys2Proof.Machine.execEi s
  | .undefinedFC => Sys2Proof.Machine.execUndefinedFC s
  | .undefinedFD => Sys2Proof.Machine.execUndefinedFD s
  | .cpD8 v => Sys2Proof.Machine.execCpD8 v s
  | .rst38 => Sys2Proof.Machine.execRst38 s
  | .rlcB => Sys2Proof.Machine.execRlcB s
  | .rlcC => Sys2Proof.Machine.execRlcC s
  | .rlcD => Sys2Proof.Machine.execRlcD s
  | .rlcE => Sys2Proof.Machine.execRlcE s
  | .rlcH => Sys2Proof.Machine.execRlcH s
  | .rlcL => Sys2Proof.Machine.execRlcL s
  | .rlcIndHL => Sys2Proof.Machine.execRlcIndHL s
  | .rlcA => Sys2Proof.Machine.execRlcA s
  | .rrcB => Sys2Proof.Machine.execRrcB s
  | .rrcC => Sys2Proof.Machine.execRrcC s
  | .rrcD => Sys2Proof.Machine.execRrcD s
  | .rrcE => Sys2Proof.Machine.execRrcE s
  | .rrcH => Sys2Proof.Machine.execRrcH s
  | .rrcL => Sys2Proof.Machine.execRrcL s
  | .rrcIndHL => Sys2Proof.Machine.execRrcIndHL s
  | .rrcA => Sys2Proof.Machine.execRrcA s
  | .rlB => Sys2Proof.Machine.execRlB s
  | .rlC => Sys2Proof.Machine.execRlC s
  | .rlD => Sys2Proof.Machine.execRlD s
  | .rlE => Sys2Proof.Machine.execRlE s
  | .rlH => Sys2Proof.Machine.execRlH s
  | .rlL => Sys2Proof.Machine.execRlL s
  | .rlIndHL => Sys2Proof.Machine.execRlIndHL s
  | .rlA => Sys2Proof.Machine.execRlA s
  | .rrB => Sys2Proof.Machine.execRrB s
  | .rrC => Sys2Proof.Machine.execRrC s
  | .rrD => Sys2Proof.Machine.execRrD s
  | .rrE => Sys2Proof.Machine.execRrE s
  | .rrH => Sys2Proof.Machine.execRrH s
  | .rrL => Sys2Proof.Machine.execRrL s
  | .rrIndHL => Sys2Proof.Machine.execRrIndHL s
  | .rrA => Sys2Proof.Machine.execRrA s
  | .slaB => Sys2Proof.Machine.execSlaB s
  | .slaC => Sys2Proof.Machine.execSlaC s
  | .slaD => Sys2Proof.Machine.execSlaD s
  | .slaE => Sys2Proof.Machine.execSlaE s
  | .slaH => Sys2Proof.Machine.execSlaH s
  | .slaL => Sys2Proof.Machine.execSlaL s
  | .slaIndHL => Sys2Proof.Machine.execSlaIndHL s
  | .slaA => Sys2Proof.Machine.execSlaA s
  | .sraB => Sys2Proof.Machine.execSraB s
  | .sraC => Sys2Proof.Machine.execSraC s
  | .sraD => Sys2Proof.Machine.execSraD s
  | .sraE => Sys2Proof.Machine.execSraE s
  | .sraH => Sys2Proof.Machine.execSraH s
  | .sraL => Sys2Proof.Machine.execSraL s
  | .sraIndHL => Sys2Proof.Machine.execSraIndHL s
  | .sraA => Sys2Proof.Machine.execSraA s
  | .swapB => Sys2Proof.Machine.execSwapB s
  | .swapC => Sys2Proof.Machine.execSwapC s
  | .swapD => Sys2Proof.Machine.execSwapD s
  | .swapE => Sys2Proof.Machine.execSwapE s
  | .swapH => Sys2Proof.Machine.execSwapH s
  | .swapL => Sys2Proof.Machine.execSwapL s
  | .swapIndHL => Sys2Proof.Machine.execSwapIndHL s
  | .swapA => Sys2Proof.Machine.execSwapA s
  | .srlB => Sys2Proof.Machine.execSrlB s
  | .srlC => Sys2Proof.Machine.execSrlC s
  | .srlD => Sys2Proof.Machine.execSrlD s
  | .srlE => Sys2Proof.Machine.execSrlE s
  | .srlH => Sys2Proof.Machine.execSrlH s
  | .srlL => Sys2Proof.Machine.execSrlL s
  | .srlIndHL => Sys2Proof.Machine.execSrlIndHL s
  | .srlA => Sys2Proof.Machine.execSrlA s
  | .bitB b => Sys2Proof.Machine.execBitB b s
  | .bitC b => Sys2Proof.Machine.execBitC b s
  | .bitD b => Sys2Proof.Machine.execBitD b s
  | .bitE b => Sys2Proof.Machine.execBitE b s
  | .bitH b => Sys2Proof.Machine.execBitH b s
  | .bitL b => Sys2Proof.Machine.execBitL b s
  | .bitIndHL b => Sys2Proof.Machine.execBitIndHL b s
  | .bitA b => Sys2Proof.Machine.execBitA b s
  | .resB b => Sys2Proof.Machine.execResB b s
  | .resC b => Sys2Proof.Machine.execResC b s
  | .resD b => Sys2Proof.Machine.execResD b s
  | .resE b => Sys2Proof.Machine.execResE b s
  | .resH b => Sys2Proof.Machine.execResH b s
  | .resL b => Sys2Proof.Machine.execResL b s
  | .resIndHL b => Sys2Proof.Machine.execResIndHL b s
  | .resA b => Sys2Proof.Machine.execResA b s
  | .setB b => Sys2Proof.Machine.execSetB b s
  | .setC b => Sys2Proof.Machine.execSetC b s
  | .setD b => Sys2Proof.Machine.execSetD b s
  | .setE b => Sys2Proof.Machine.execSetE b s
  | .setH b => Sys2Proof.Machine.execSetH b s
  | .setL b => Sys2Proof.Machine.execSetL b s
  | .setIndHL b => Sys2Proof.Machine.execSetIndHL b s
  | .setA b => Sys2Proof.Machine.execSetA b s

end Sys2Proof.Machine
end

