-- ==== Sys2Proof/Machine/Display.lean ====
section
/-! DEFINITION. The Display Timing/Rasterizer (spec/60_exceptions.md R271 to R283). -/

namespace Sys2Proof.Machine

/-- `DOTS_PER_LINE` (R11). -/
def dotsPerLine : Nat := 456

/-- `LINES_PER_FRAME` (R11). -/
def linesPerFrame : Nat := 154

/-- LY, the line-position register (R273). -/
def lyAddr : Word := 0xFF44

/-- SCY (R281). -/
def scyAddr : Word := 0xFF42

/-- SCX (R281). -/
def scxAddr : Word := 0xFF43

/-- The base of the 32×32 tile-index map (R276). -/
def tileMapBase : Nat := 0x9800

/-- The base of the tile patterns (R276). -/
def tileDataBase : Nat := 0x8000

/-- `Palette` (R277): the shade of a 2-bit colour index given as its high and low bit. -/
def palette (hi lo : Bool) : Shade :=
  match hi, lo with
  | false, false => .white
  | false, true => .lightGray
  | true, false => .darkGray
  | true, true => .black

/-- The shade of column x of line ly, from what memory holds now (R275). -/
def pixel (s : State) (ly x : Nat) : Shade :=
  let sy := (ly + (read8 scyAddr s).toNat) % 256
  let sx := (x + (read8 scxAddr s).toNat) % 256
  let t := (read8 (BitVec.ofNat 16 (tileMapBase + sy / 8 * 32 + sx / 8)) s).toNat
  let row := tileDataBase + t * 16 + sy % 8 * 2
  let lo := read8 (BitVec.ofNat 16 row) s
  let hi := read8 (BitVec.ofNat 16 (row + 1)) s
  palette (hi.getLsbD (7 - sx % 8)) (lo.getLsbD (7 - sx % 8))

/-- `Rasterize` (R275): replace row ly of the framebuffer. -/
def rasterize (ly : Nat) (s : State) : State :=
  { s with fb := s.fb.set ly ((List.range Config.screenWidth).map (pixel s ly)) }

/-- What happens on entering the line the counter now holds (R272, R274, R278, R279). -/
def enterLine (s : State) : State :=
  if s.line < Config.visibleLines then rasterize s.line (write8 lyAddr (BitVec.ofNat 8 s.line) s)
  else if s.line = Config.visibleLines then
    { write8 lyAddr (BitVec.ofNat 8 Config.visibleLines) s with frameReady := true }
  else s

/-- `Tick` (R272). -/
def tick (s : State) : State :=
  if s.dot + 1 = dotsPerLine then
    if s.line + 1 = linesPerFrame then enterLine { s with dot := 0, line := 0, frameReady := false }
    else enterLine { s with dot := 0, line := s.line + 1 }
  else { s with dot := s.dot + 1 }

/-- Ticks one after the other, never batched (R302). -/
def ticks : Nat → State → State
  | 0, s => s
  | n + 1, s => ticks n (tick s)

end Sys2Proof.Machine
end

