-- ==== Sys2Proof/Machine/Fetch.lean ====
section
/-! DEFINITION. Fetching and decoding at PC (spec/30_encoding.md R80 to R82) and the lock-step of an instruction with its
display ticks (spec/70_reset_and_hazards.md R301, R302). -/

namespace Sys2Proof.Machine

/-- The bytes from PC on, as many as the longest instruction has (R83), wrapping (R57, R81). Reads have no side effect
(R56), so reading past a shorter instruction cannot be told. -/
def fetchBytes (s : State) : List Byte := [read8 s.pc s, read8 (s.pc + 1) s, read8 (s.pc + 2) s]

/-- The bytes a decode failure reports (R261). The last three errors need fewer bytes than `fetchBytes` gives. -/
def reportedBytes : DecodeError → List Byte
  | .notImplemented op => [op]
  | .missingImmediate op => [op]
  | .noSecondByte => [0xCB]
  | .noOpcode => []

/-- The display ticks an instruction owes: as many as the cycles it added (R300, R301). -/
def owedTicks (before after : State) : Nat := after.cycles - before.cycles

/-- The rest of a system step after the CPU's: a fault stops it, otherwise the owed ticks follow (R301). -/
def settle (s : State) (r : Result) : Result :=
  match r with
  | .next t => if t.fault.isSome then .next t else .next (ticks (owedTicks s t) t)
  | .fault q => .fault q
  | .refused q => .refused q

/-- One system step of a state that has not faulted (R80, R301). -/
def runInstr (k : Config.Interpreter) (s : State) : Result :=
  match decodeWith k (fetchBytes s) with
  | .ok (i, _) => settle s (exec i s)
  | .error e => .next (raiseUnimplemented (reportedBytes e) s)

/-- Place the bytes of an instruction at PC, past the write guard, as the loader does (R311). -/
def placeAtPc (s : State) (bytes : List Byte) : State :=
  match bytes with
  | [b0, b1, b2] =>
    { s with mem := ((s.mem.write s.pc.toNat b0).write (s.pc + 1).toNat b1).write (s.pc + 2).toNat b2 }
  | _ => s

end Sys2Proof.Machine
end

