-- ==== Sys2Proof/Machine/Step.lean ====
section
/-! DEFINITION. The system step (spec/70_reset_and_hazards.md R301): one instruction and its display ticks. -/

namespace Sys2Proof.Machine

/-- `SystemStep` for an interpreter with the given `IMPL_PRIMARY` and `IMPL_CB`; a faulted state is terminal (R262). -/
def stepWith (k : Config.Interpreter) (s : State) : Host.Outcome State Fault Refusal :=
  match s.fault with
  | some _ => .next s
  | none => runInstr k s

/-- `SystemStep` with the reference sets of R12. -/
def step (s : State) : Host.Outcome State Fault Refusal := stepWith Config.referenceInterpreter s

/-- The state with an instruction of the opcode table stored at PC, where the next step fetches it; a fault recorded
earlier is cleared, since a faulted state fetches nothing. -/
def State.withFetchWord (s : State) (nbits w : Nat) : State :=
  { placeAtPc s (tableBytes nbits w) with fault := none }

end Sys2Proof.Machine
end

