-- ==== Sys2Proof/Machine/PowerOn.lean ====
section
/-! DEFINITION. Power-on with its launch inputs (spec/70_reset_and_hazards.md R310 to R316, spec/60_exceptions.md R263)
and what the collaborators of R317 see of a state. -/

namespace Sys2Proof.Machine

/-- `BOOT_IMAGE_SIZE` (R11). -/
def bootImageSize : Nat := 256

/-- The bytes of the boot image, or the failure of its load (R263); none where the launch skips it (R313). -/
def bootBytes : Config.BootSource → Except Image (List Byte)
  | .image bytes => if bytes.length = bootImageSize then .ok bytes else .error .boot
  | .unreadable => .error .boot
  | .skipped => .ok []

/-- The bytes of the cartridge image, or the failure of its load (R263). -/
def cartBytes : Config.CartSource → Except Image (List Byte)
  | .image bytes => if bytes.length ≤ 65536 then .ok bytes else .error .cartridge
  | .unreadable => .error .cartridge

/-- The address space after steps 1 to 3 of power-on: zero-filled, the cartridge at 0, the boot image over it (R310 to
R312, R320). -/
def powerOnMemory (cart boot : List Byte) : Memory := Memory.load (Memory.load [] 0 cart) 0 boot

/-- The state after power-on with both images at hand (R313 to R315). -/
def powerOnState (l : Config.Launch) (cart boot : List Byte) : State :=
  { a := l.resetRegs.a, f := l.resetRegs.f, b := l.resetRegs.b, c := l.resetRegs.c, d := l.resetRegs.d,
    e := l.resetRegs.e, h := l.resetRegs.h, l := l.resetRegs.l, sp := l.resetRegs.sp, pc := l.entryPc, ime := false,
    cycles := 0, mem := powerOnMemory cart boot, dot := 0, line := 0, frameReady := false, fb := l.fbReset,
    fault := none }

/-- Power-on: a state, or ResourceLoadFailure with the boot image checked first (R263). -/
def powerOn (l : Config.Launch) : Result :=
  match bootBytes l.boot with
  | .error w => .fault (.resourceLoadFailure w)
  | .ok boot =>
    match cartBytes l.cart with
    | .error w => .fault (.resourceLoadFailure w)
    | .ok cart => .next (powerOnState l cart boot)

/-- A launch the spec allows: `RESET_REGS` has F[3:0] = 0 (R12, R25) and `FB_RESET` is a framebuffer (R32). -/
def launchOk (l : Config.Launch) : Bool :=
  decide (l.resetRegs.f &&& 0x0F = 0) && decide (l.fbReset.length = Config.visibleLines) &&
    l.fbReset.all (fun row => decide (row.length = Config.screenWidth))

/-- The presentation collaborator reads the framebuffer once per rising edge of frame-ready (R283). -/
def framePresented (before after : State) : Bool := !before.frameReady && after.frameReady

/-- What the optional observer receives after a step: a copy of the whole state (R286). -/
def observed (s : State) : State := s

/-- The label of R261 for a recorded fault: 1 for a primary byte, 2 for a byte after 0xCB. -/
def faultCode (r : FaultRecord) : Nat := if r.bytes.length = 1 then 1 else 2

end Sys2Proof.Machine
end

