-- ==== Sys2Proof/Machine/Run.lean ====
section
/-! DEFINITION. The driver loop and the end of a run (spec/70_reset_and_hazards.md R317 to R319): system steps one after the
other, from a state or from a launch. -/

namespace Sys2Proof.Machine

/-- Go on from a next state; a fault or a refusal stays as it is. -/
def andThen {α : Type} (r : Result) (go : State → Host.Outcome α Fault Refusal) : Host.Outcome α Fault Refusal :=
  match r with
  | .next s => go s
  | .fault q => .fault q
  | .refused q => .refused q

/-- What a driver loop finds at a step boundary (R319). -/
inductive RunStatus where
  /-- The run goes on: the driver calls the next system step. -/
  | running
  /-- The run has ended normally. -/
  | ended
  /-- The run has faulted, which is no normal end. -/
  | faulted
deriving DecidableEq, Repr

/-- A run has faulted (R262, R319). -/
def runFaulted (s : State) : Bool := s.fault.isSome

/-- A step boundary is a normal end: PC is in `STOP_PCS` and no fault is recorded (R319). -/
def runEnded (l : Config.Launch) (s : State) : Bool := !runFaulted s && l.stopPcs.contains s.pc

/-- The status of a run at a step boundary (R319). -/
def runStatus (l : Config.Launch) (s : State) : RunStatus :=
  if runFaulted s then .faulted else if runEnded l s then .ended else .running

/-- The bounded run of `n` system steps: whatever they reach, `STOP_PCS` left aside (R319). -/
def runSteps (k : Config.Interpreter) (n : Nat) (s : State) : Result :=
  match n with
  | 0 => .next s
  | m + 1 => andThen (stepWith k s) (fun t => runSteps k m t)

/-- What a driver loop answers when it stops: the status it found, how many system steps it called, and the state. -/
structure RunReport where
  status : RunStatus
  steps  : Nat
  state  : State
deriving DecidableEq, Repr

/-- The driver loop after `taken` system steps, with leave for `n` more: it looks at each step boundary and stops at the
first that is no longer running (R317, R319). The present boundary is one of them (DEDUCED; unsafe for a claim about a
launch that starts at a stop address; log entry 32). -/
def driveFrom (l : Config.Launch) (taken n : Nat) (s : State) : Host.Outcome RunReport Fault Refusal :=
  match n with
  | 0 => .next { status := runStatus l s, steps := taken, state := s }
  | m + 1 =>
    match runStatus l s with
    | .running => andThen (stepWith l.interpreter s) (fun t => driveFrom l (taken + 1) m t)
    | found => .next { status := found, steps := taken, state := s }

/-- The driver loop from a state, with leave for `n` system steps (R319). -/
def drive (l : Config.Launch) (n : Nat) (s : State) : Host.Outcome RunReport Fault Refusal := driveFrom l 0 n s

/-- A launch and its driver loop; nothing is driven where a load fails (R263, R315, R319). -/
def runLaunch (l : Config.Launch) (n : Nat) : Host.Outcome RunReport Fault Refusal := andThen (powerOn l) (drive l n)

/-- A launch and its bounded run of `n` system steps (R319). -/
def boundedRun (l : Config.Launch) (n : Nat) : Result := andThen (powerOn l) (runSteps l.interpreter n)

/-- A run that never ends: the driver loop is still running after any number of system steps (R319). -/
def neverEnds (l : Config.Launch) (s : State) : Prop := ∀ n, ∃ r, drive l n s = .next r ∧ r.status = .running

end Sys2Proof.Machine
end

