-- ==== Sys2Proof/Safety.lean ====
section
/-! DEFINITION. The terms in which the claims are stated: the state invariant, what an instruction leaves unchanged, what
a guarded store does, how flags read, and the exact-integer forms of the rotates. -/

namespace Sys2Proof.Safety

open Sys2Proof.Machine

/-- The number of dots in a frame, 154 lines of 456 (R280). -/
def dotsPerFrame : Nat := 70224

/-- What every reachable state satisfies: memory is in canonical form, F[3:0] is zero (R25), the display counters stay in
range and the framebuffer keeps its size (R32, R272), and frame-ready is raised exactly in lines 144..153 (R278). -/
structure Inv (s : State) : Prop where
  memory     : s.mem.wf = true
  lowNibble  : s.f &&& 0x0F = 0
  dotRange   : s.dot < 456
  lineRange  : s.line < 154
  rows       : s.fb.length = 144
  columns    : ∀ row ∈ s.fb, row.length = 160
  frameReady : s.frameReady = decide (144 ≤ s.line)

/-- The display's place in its frame, in dots. -/
def position (s : State) : Nat := s.line * 456 + s.dot

/-- Everything outside the register file, PC, the cycle total and memory is unchanged. -/
structure DeviceKept (s t : State) : Prop where
  dot        : t.dot = s.dot
  line       : t.line = s.line
  frameReady : t.frameReady = s.frameReady
  fb         : t.fb = s.fb
  fault      : t.fault = s.fault

/-- The 8-bit registers outside a list are unchanged. -/
def RegsKept (except : List Reg8) (s t : State) : Prop := ∀ r, r ∉ except → getReg8 r t = getReg8 r s

/-- Every byte of memory is unchanged. -/
def MemoryKept (s t : State) : Prop := ∀ a, read8 a t = read8 a s

/-- One byte is stored at an address under the write guard (R53), and every other byte is unchanged. -/
structure StoresByte (addr : Word) (v : Byte) (s t : State) : Prop where
  stored : read8 addr t = if addr.toNat < 0x8000 then read8 addr s else v
  others : ∀ a, a ≠ addr → read8 a t = read8 a s

/-- A word is stored at an address, low byte first, each byte under the guard by itself and the second address wrapping
(R54, R57), and every other byte is unchanged. -/
structure StoresWord (addr v : Word) (s t : State) : Prop where
  low    : read8 addr t = if addr.toNat < 0x8000 then read8 addr s else loByte v
  high   : read8 (addr + 1) t = if (addr + 1).toNat < 0x8000 then read8 (addr + 1) s else hiByte v
  others : ∀ a, a ≠ addr → a ≠ addr + 1 → read8 a t = read8 a s

/-- The frame of an instruction that stores nothing: it may change the listed registers, and F, SP, PC and the cycle total,
of which a claim speaks by itself. -/
structure RegisterFrame (except : List Reg8) (s t : State) : Prop where
  regs   : RegsKept except s t
  memory : MemoryKept s t
  ime    : t.ime = s.ime
  device : DeviceKept s t

/-- The frame of an instruction that stores to memory, of whose bytes a claim speaks by itself. -/
structure StoreFrame (except : List Reg8) (s t : State) : Prop where
  regs   : RegsKept except s t
  ime    : t.ime = s.ime
  device : DeviceKept s t

/-- PC passes the instruction's bytes and its cost is added (R28, R84). -/
structure Retires (len cost : Nat) (s t : State) : Prop where
  pc     : t.pc = s.pc + BitVec.ofNat 16 len
  cycles : t.cycles = s.cycles + cost

/-- F and SP are unchanged. -/
structure FlagsAndStackKept (s t : State) : Prop where
  f  : t.f = s.f
  sp : t.sp = s.sp

/-- The four flags read as given and bits 3..0 of F are the given nibble (R24, R25). -/
structure FlagsRead (z n h c : Bool) (low : Byte) (t : State) : Prop where
  z   : flagZ t = z
  n   : flagN t = n
  h   : flagH t = h
  c   : flagC t = c
  low : t.f &&& 0x0F = low

/-- The cost of a form that differs between a register operand and memory at HL. -/
def costFor (o : Operand8) (register memory : Nat) : Nat :=
  match o with
  | .reg _ => register
  | .hlMem => memory

/-- A byte result goes to an 8-bit operand: to the register, all other registers and memory unchanged, or to memory at HL
under the guard, all registers unchanged. -/
def Delivers (o : Operand8) (v : Byte) (s t : State) : Prop :=
  match o with
  | .reg r => getReg8 r t = v ∧ RegisterFrame [r] s t
  | .hlMem => StoresByte (getPair .hl s) v s t ∧ StoreFrame [] s t

/-- The registers that make up a pair. -/
def halves : Pair → List Reg8
  | .bc => [.b, .c]
  | .de => [.d, .e]
  | .hl => [.h, .l]
  | .sp => []

/-- The registers other than F that make up a stack pair. -/
def stackHalves : StackPair → List Reg8
  | .bc => [.b, .c]
  | .de => [.d, .e]
  | .hl => [.h, .l]
  | .af => [.a]

/-- The result of a rotate or shift as an exact number (R200 to R220), given the operand and the old carry. -/
def rotateResult (op : RotOp) (v c : Nat) : Nat :=
  match op with
  | .rlc => v * 2 % 256 + v / 128
  | .rrc => v / 2 + v % 2 * 128
  | .rl => v * 2 % 256 + c
  | .rr => v / 2 + c * 128
  | .sla => v * 2 % 256
  | .sra => v / 2 + v / 128 * 128
  | .swap => v % 16 * 16 + v / 16
  | .srl => v / 2

/-- The carry a rotate or shift leaves (R200 to R220). -/
def rotateCarry (op : RotOp) (v : Nat) : Bool :=
  match op with
  | .rlc => decide (128 ≤ v)
  | .rl => decide (128 ≤ v)
  | .sla => decide (128 ≤ v)
  | .swap => false
  | _ => decide (v % 2 = 1)

/-- The byte of two BCD digits that a number below 100 has. -/
def bcdOf (n : Nat) : Byte := BitVec.ofNat 8 (n / 10 * 16 + n % 10)

/-- The state with the state no instruction reads replaced: IME, the display's counters and frame-ready signal, and the
framebuffer (R30, R32, R35). -/
def withHidden (ime : Bool) (dot line : Nat) (ready : Bool) (fb : List (List Shade)) (s : State) : State :=
  { s with ime := ime, dot := dot, line := line, frameReady := ready, fb := fb }

end Sys2Proof.Safety
end

