-- ==== Sys2Proof/Certificates/Slice0/Obligations.lean ====
section
/-! DEFINITION. The statements for the provers. Each docstring names the rules of spec/ it formalises. A statement about an
instruction concludes that exec answers a next state, for every state, so it is the instruction's completion too. -/

open Sys2Proof Sys2Proof.Machine Sys2Proof.Safety

/-! ### 8-bit loads -/

/-- R101: `LD r,r'` copies the register, writes nothing else and costs 4. -/
def Obligations.LoadCopiesRegister : Prop :=
  ∀ (dst src : Reg8) (s : State), ∃ t, exec (ldInstr (.reg dst) (.reg src)) s = .next t ∧
    getReg8 dst t = getReg8 src s ∧ RegisterFrame [dst] s t ∧ FlagsAndStackKept s t ∧ Retires 1 4 s t

/-- R102, R105: the immediate goes to the register or, under the guard, to memory at HL. -/
def Obligations.LoadImmediateDelivers : Prop :=
  ∀ (o : Operand8) (v : Byte) (s : State), s.mem.wf = true → ∃ t, exec (ldImmInstr o v) s = .next t ∧
    Delivers o v s t ∧ FlagsAndStackKept s t ∧ Retires 2 (costFor o 8 12) s t

/-- R103: the byte at HL as it was goes to the register, also where that register is H or L. -/
def Obligations.LoadRegisterFromMemoryAtHL : Prop :=
  ∀ (dst : Reg8) (s : State), ∃ t, exec (ldInstr (.reg dst) .hlMem) s = .next t ∧
    getReg8 dst t = read8 (getPair .hl s) s ∧ RegisterFrame [dst] s t ∧ FlagsAndStackKept s t ∧ Retires 1 8 s t

/-- R104: the register is stored at HL under the write guard. -/
def Obligations.StoreRegisterToMemoryAtHL : Prop :=
  ∀ (r : Reg8) (s : State), s.mem.wf = true → ∃ t, exec (ldInstr .hlMem (.reg r)) s = .next t ∧
    StoresByte (getPair .hl s) (getReg8 r s) s t ∧ StoreFrame [] s t ∧ FlagsAndStackKept s t ∧ Retires 1 8 s t

/-- R106, R107, R110, R112, R114: A is loaded from BC, DE, an absolute address, or the page at 0xFF00. -/
def Obligations.LoadAccumulatorFromMemory : Prop :=
  ∀ (s : State) (w : Word) (n : Byte), ∀ form ∈
    [(Instr.ldAIndBC, getPair .bc s, 1, 8), (.ldAIndDE, getPair .de s, 1, 8), (.ldAIndA16 w, w, 3, 16),
     (.ldhAIndA8 n, BitVec.ofNat 16 (0xFF00 + n.toNat), 2, 12), (.ldAIndC, BitVec.ofNat 16 (0xFF00 + s.c.toNat), 1, 8)],
    ∃ t, exec form.1 s = .next t ∧ t.a = read8 form.2.1 s ∧ RegisterFrame [.a] s t ∧ FlagsAndStackKept s t ∧
      Retires form.2.2.1 form.2.2.2 s t

/-- R108, R109, R111, R113, R115: A is stored at BC, DE, an absolute address, or the page at 0xFF00. -/
def Obligations.StoreAccumulatorToMemory : Prop :=
  ∀ (s : State) (w : Word) (n : Byte), s.mem.wf = true → ∀ form ∈
    [(Instr.ldIndBCA, getPair .bc s, 1, 8), (.ldIndDEA, getPair .de s, 1, 8), (.ldIndA16A w, w, 3, 16),
     (.ldhIndA8A n, BitVec.ofNat 16 (0xFF00 + n.toNat), 2, 12), (.ldIndCA, BitVec.ofNat 16 (0xFF00 + s.c.toNat), 1, 8)],
    ∃ t, exec form.1 s = .next t ∧ StoresByte form.2.1 s.a s t ∧ StoreFrame [] s t ∧ FlagsAndStackKept s t ∧
      Retires form.2.2.1 form.2.2.2 s t

/-- R116, R117: A is stored at HL as it was, and HL moves on by one, also where the store is dropped. -/
def Obligations.StoreAccumulatorAndStepHL : Prop :=
  ∀ (s : State), s.mem.wf = true → ∀ form ∈ [(Instr.ldIndHLIncA, getPair .hl s + 1), (.ldIndHLDecA, getPair .hl s - 1)],
    ∃ t, exec form.1 s = .next t ∧ StoresByte (getPair .hl s) s.a s t ∧ getPair .hl t = form.2 ∧
      StoreFrame [.h, .l] s t ∧ FlagsAndStackKept s t ∧ Retires 1 8 s t

/-- R118, R119: A is loaded from HL as it was, and HL moves on by one. -/
def Obligations.LoadAccumulatorAndStepHL : Prop :=
  ∀ (s : State), ∀ form ∈ [(Instr.ldAIndHLInc, getPair .hl s + 1), (.ldAIndHLDec, getPair .hl s - 1)],
    ∃ t, exec form.1 s = .next t ∧ t.a = read8 (getPair .hl s) s ∧ getPair .hl t = form.2 ∧
      RegisterFrame [.a, .h, .l] s t ∧ FlagsAndStackKept s t ∧ Retires 1 8 s t

/-! ### 16-bit loads and the stack -/

/-- R130, R132: an immediate word goes to a pair, and HL to SP. -/
def Obligations.LoadPairWritesBothHalves : Prop :=
  (∀ (p : Pair) (v : Word) (s : State), ∃ t, exec (ldPairInstr p v) s = .next t ∧ getPair p t = v ∧
    RegisterFrame (halves p) s t ∧ t.f = s.f ∧ (p ≠ .sp → t.sp = s.sp) ∧ Retires 3 12 s t) ∧
  (∀ s : State, ∃ t, exec .ldSPHL s = .next t ∧ t.sp = getPair .hl s ∧ RegisterFrame [] s t ∧ t.f = s.f ∧
    Retires 1 8 s t)

/-- R131: SP is stored little-endian, each byte guarded by itself. -/
def Obligations.StoreStackPointer : Prop :=
  ∀ (a : Word) (s : State), s.mem.wf = true → ∃ t, exec (.ldIndA16SP a) s = .next t ∧
    StoresWord a s.sp s t ∧ StoreFrame [] s t ∧ FlagsAndStackKept s t ∧ Retires 3 20 s t

/-- R133, R193: SP plus a signed displacement goes to HL or to SP, H and C are the unsigned carries of the low byte. -/
def Obligations.StackPointerOffset : Prop :=
  ∀ (e : Byte) (s : State),
    (∃ t, exec (.ldHLSPE8 e) s = .next t ∧
      ((getPair .hl t).toNat : Int) = ((s.sp.toNat : Int) + e.toInt) % 65536 ∧ t.sp = s.sp ∧
      FlagsRead false false (decide (s.sp.toNat % 16 + e.toNat % 16 > 15)) (decide (s.sp.toNat % 256 + e.toNat > 255))
        (s.f &&& 0x0F) t ∧ RegisterFrame [.h, .l] s t ∧ Retires 2 12 s t) ∧
    (∃ t, exec (.addSPE8 e) s = .next t ∧
      (t.sp.toNat : Int) = ((s.sp.toNat : Int) + e.toInt) % 65536 ∧
      FlagsRead false false (decide (s.sp.toNat % 16 + e.toNat % 16 > 15)) (decide (s.sp.toNat % 256 + e.toNat > 255))
        (s.f &&& 0x0F) t ∧ RegisterFrame [] s t ∧ Retires 2 16 s t)

/-- R134, R60: SP goes down by 2 and the pair is stored there. -/
def Obligations.PushStoresPair : Prop :=
  ∀ (p : StackPair) (s : State), s.mem.wf = true → ∃ t, exec (pushInstr p) s = .next t ∧ t.sp = s.sp - 2 ∧
    StoresWord (s.sp - 2) (getStackPair p s) s t ∧ StoreFrame [] s t ∧ t.f = s.f ∧ Retires 1 16 s t

/-- R135, R136, R61: the pair is read at SP, which goes up by 2; a byte popped to F loses its low nibble. -/
def Obligations.PopLoadsPair : Prop :=
  ∀ (p : StackPair) (s : State), ∃ t, exec (popInstr p) s = .next t ∧ t.sp = s.sp + 2 ∧
    hiByte (getStackPair p t) = read8 (s.sp + 1) s ∧
    loByte (getStackPair p t) = (if p = .af then read8 s.sp s &&& 0xF0 else read8 s.sp s) ∧
    (p ≠ .af → t.f = s.f) ∧ RegisterFrame (stackHalves p) s t ∧ Retires 1 12 s t

/-! ### 8-bit arithmetic and logic -/

/-- R150, R153 to R158: ADD and ADC from a register, from memory at HL and from an immediate. -/
def Obligations.AddComputesSumAndFlags : Prop :=
  ∀ (s : State) (withCarry : Bool) (src : Operand8) (v : Byte),
    ∀ form ∈ [(aluInstr (if withCarry then .adc else .add) src, op8 src s, 1, costFor src 4 8),
      (aluImmInstr (if withCarry then .adc else .add) v, v, 2, 8)],
    let cin := if withCarry then (flagC s).toNat else 0
    ∃ t, exec form.1 s = .next t ∧ t.a.toNat = (s.a.toNat + form.2.1.toNat + cin) % 256 ∧
      FlagsRead (decide (t.a = 0)) false (decide (s.a.toNat % 16 + form.2.1.toNat % 16 + cin > 15))
        (decide (s.a.toNat + form.2.1.toNat + cin > 255)) 0 t ∧
      RegisterFrame [.a] s t ∧ t.sp = s.sp ∧ Retires form.2.2.1 form.2.2.2 s t

/-- R151, R159 to R164: SUB and SBC from a register, from memory at HL and from an immediate. -/
def Obligations.SubtractComputesDifferenceAndFlags : Prop :=
  ∀ (s : State) (withCarry : Bool) (src : Operand8) (v : Byte),
    ∀ form ∈ [(aluInstr (if withCarry then .sbc else .sub) src, op8 src s, 1, costFor src 4 8),
      (aluImmInstr (if withCarry then .sbc else .sub) v, v, 2, 8)],
    let cin := if withCarry then (flagC s).toNat else 0
    ∃ t, exec form.1 s = .next t ∧
      (t.a.toNat : Int) = ((s.a.toNat : Int) - form.2.1.toNat - cin) % 256 ∧
      FlagsRead (decide (t.a = 0)) true (decide (s.a.toNat % 16 < form.2.1.toNat % 16 + cin))
        (decide (s.a.toNat < form.2.1.toNat + cin)) 0 t ∧
      RegisterFrame [.a] s t ∧ t.sp = s.sp ∧ Retires form.2.2.1 form.2.2.2 s t

/-- R174 to R176: CP sets Z exactly on equality and C exactly on unsigned less-than, and writes no register but F. -/
def Obligations.CompareSetsFlagsOnly : Prop :=
  ∀ (s : State) (src : Operand8) (v : Byte),
    ∀ form ∈ [(aluInstr .cp src, op8 src s, 1, costFor src 4 8), (aluImmInstr .cp v, v, 2, 8)],
    ∃ t, exec form.1 s = .next t ∧
      FlagsRead (decide (s.a = form.2.1)) true (decide (s.a.toNat % 16 < form.2.1.toNat % 16))
        (decide (s.a.toNat < form.2.1.toNat)) 0 t ∧
      RegisterFrame [] s t ∧ t.sp = s.sp ∧ Retires form.2.2.1 form.2.2.2 s t

/-- R152, R165 to R173: AND, XOR and OR, bit by bit; AND sets H, all three clear N and C. -/
def Obligations.LogicalOperationsBitwise : Prop :=
  ∀ (s : State) (src : Operand8) (v : Byte), ∀ op ∈ [AluOp.and, .xor, .or],
    ∀ form ∈ [(aluInstr op src, op8 src s, 1, costFor src 4 8), (aluImmInstr op v, v, 2, 8)],
    ∃ t, exec form.1 s = .next t ∧
      (∀ i, t.a.getLsbD i = (match op with
        | .and => s.a.getLsbD i && form.2.1.getLsbD i
        | .xor => s.a.getLsbD i ^^ form.2.1.getLsbD i
        | _ => s.a.getLsbD i || form.2.1.getLsbD i)) ∧
      FlagsRead (decide (t.a = 0)) false (decide (op = .and)) false 0 t ∧
      RegisterFrame [.a] s t ∧ t.sp = s.sp ∧ Retires form.2.2.1 form.2.2.2 s t

/-- R177, R178: 8-bit increment wraps, sets H from a carry out of bit 3, keeps C. -/
def Obligations.IncrementByte : Prop :=
  ∀ (o : Operand8) (s : State), s.mem.wf = true → ∃ t res, exec (incInstr o) s = .next t ∧
    res.toNat = ((op8 o s).toNat + 1) % 256 ∧ Delivers o res s t ∧
    FlagsRead (decide (res = 0)) false (decide ((op8 o s).toNat % 16 = 15)) (flagC s) (s.f &&& 0x0F) t ∧
    t.sp = s.sp ∧ Retires 1 (costFor o 4 12) s t

/-- R179, R180: 8-bit decrement wraps, sets H from a borrow into bit 3, keeps C. -/
def Obligations.DecrementByte : Prop :=
  ∀ (o : Operand8) (s : State), s.mem.wf = true → ∃ t res, exec (decInstr o) s = .next t ∧
    res.toNat = ((op8 o s).toNat + 255) % 256 ∧ Delivers o res s t ∧
    FlagsRead (decide (res = 0)) true (decide ((op8 o s).toNat % 16 = 0)) (flagC s) (s.f &&& 0x0F) t ∧
    t.sp = s.sp ∧ Retires 1 (costFor o 4 12) s t

/-- R181: DAA, with the two corrections of an addition taken from the operand at once. -/
def Obligations.DecimalAdjustAlgorithm : Prop :=
  ∀ s : State, ∃ t, exec .daa s = .next t ∧
    (flagN s = false →
      t.a.toNat = (s.a.toNat + (if flagC s || decide (s.a.toNat > 0x99) then 0x60 else 0) +
        (if flagH s || decide (s.a.toNat % 16 > 9) then 6 else 0)) % 256 ∧
      flagC t = (flagC s || decide (s.a.toNat > 0x99))) ∧
    (flagN s = true →
      (t.a.toNat : Int) = ((s.a.toNat : Int) - (if flagC s then 0x60 else 0) - (if flagH s then 6 else 0)) % 256 ∧
      flagC t = flagC s) ∧
    FlagsRead (decide (t.a = 0)) (flagN s) false (flagC t) (s.f &&& 0x0F) t ∧
    RegisterFrame [.a] s t ∧ t.sp = s.sp ∧ Retires 1 4 s t

/-- R181, R150, R151: ADD then DAA adds two-digit decimal numbers, SUB then DAA subtracts them; C is the decimal carry or
borrow. -/
def Obligations.DecimalAdjustCorrectsBcd : Prop :=
  ∀ (s : State) (x y : Nat), x < 100 → y < 100 → s.a = bcdOf x →
    (∃ t u, exec (.addAD8 (bcdOf y)) s = .next t ∧ exec .daa t = .next u ∧
      u.a = bcdOf ((x + y) % 100) ∧ flagC u = decide (x + y ≥ 100)) ∧
    (∃ t u, exec (.subD8 (bcdOf y)) s = .next t ∧ exec .daa t = .next u ∧
      u.a = bcdOf ((x + 100 - y) % 100) ∧ flagC u = decide (x < y))

/-- R182 to R184: CPL, SCF and CCF. -/
def Obligations.ComplementAndCarryFlag : Prop :=
  ∀ s : State,
    (∃ t, exec .cpl s = .next t ∧ t.a.toNat = 255 - s.a.toNat ∧
      FlagsRead (flagZ s) true true (flagC s) (s.f &&& 0x0F) t ∧ RegisterFrame [.a] s t ∧ t.sp = s.sp ∧ Retires 1 4 s t) ∧
    (∃ t, exec .scf s = .next t ∧ FlagsRead (flagZ s) false false true (s.f &&& 0x0F) t ∧ RegisterFrame [] s t ∧
      t.sp = s.sp ∧ Retires 1 4 s t) ∧
    (∃ t, exec .ccf s = .next t ∧ FlagsRead (flagZ s) false false (!flagC s) (s.f &&& 0x0F) t ∧ RegisterFrame [] s t ∧
      t.sp = s.sp ∧ Retires 1 4 s t)

/-! ### 16-bit arithmetic -/

/-- R190, R191: a pair goes up or down by one mod 65536 and no flag changes. -/
def Obligations.StepPairWithoutFlags : Prop :=
  ∀ (p : Pair) (s : State),
    ∀ form ∈ [(incPairInstr p, 1), (decPairInstr p, 65535)],
    ∃ t, exec form.1 s = .next t ∧ (getPair p t).toNat = ((getPair p s).toNat + form.2) % 65536 ∧ t.f = s.f ∧
      RegisterFrame (halves p) s t ∧ (p ≠ .sp → t.sp = s.sp) ∧ Retires 1 8 s t

/-- R192: ADD HL,rr, with H out of bit 11 and C out of bit 15, Z kept. -/
def Obligations.AddToHL : Prop :=
  ∀ (p : Pair) (s : State), ∃ t, exec (addHLInstr p) s = .next t ∧
    (getPair .hl t).toNat = ((getPair .hl s).toNat + (getPair p s).toNat) % 65536 ∧
    FlagsRead (flagZ s) false (decide ((getPair .hl s).toNat % 4096 + (getPair p s).toNat % 4096 > 4095))
      (decide ((getPair .hl s).toNat + (getPair p s).toNat > 65535)) (s.f &&& 0x0F) t ∧
    RegisterFrame [.h, .l] s t ∧ t.sp = s.sp ∧ Retires 1 8 s t

/-! ### Rotates, shifts and bits -/

/-- R200 to R203: the accumulator rotates clear Z whatever the result. -/
def Obligations.AccumulatorRotates : Prop :=
  ∀ (s : State), ∀ form ∈ [(Instr.rlca, RotOp.rlc), (.rrca, .rrc), (.rla, .rl), (.rra, .rr)],
    ∃ t, exec form.1 s = .next t ∧ t.a.toNat = rotateResult form.2 s.a.toNat (flagC s).toNat ∧
      FlagsRead false false false (rotateCarry form.2 s.a.toNat) (s.f &&& 0x0F) t ∧
      RegisterFrame [.a] s t ∧ t.sp = s.sp ∧ Retires 1 4 s t

/-- R204 to R220: the eight rotates and shifts of the CB page on a register and on memory at HL. -/
def Obligations.RotateAndShift : Prop :=
  ∀ (op : RotOp) (o : Operand8) (s : State), s.mem.wf = true → ∃ t res, exec (rotateInstr op o) s = .next t ∧
    res.toNat = rotateResult op (op8 o s).toNat (flagC s).toNat ∧ Delivers o res s t ∧
    FlagsRead (decide (res = 0)) false false (rotateCarry op (op8 o s).toNat) 0 t ∧
    t.sp = s.sp ∧ Retires 2 (costFor o 8 16) s t

/-- R221, R222: BIT reads one bit, keeps C and writes nothing but F. -/
def Obligations.TestBit : Prop :=
  ∀ (b : BitVec 3) (o : Operand8) (s : State), ∃ t, exec (bitInstr b o) s = .next t ∧
    FlagsRead (!(op8 o s).getLsbD b.toNat) false true (flagC s) (s.f &&& 0x0F) t ∧
    RegisterFrame [] s t ∧ t.sp = s.sp ∧ Retires 2 (costFor o 8 12) s t

/-- R223 to R226: RES and SET change one bit, keep the others and write no flag. -/
def Obligations.ClearAndSetBit : Prop :=
  ∀ (b : BitVec 3) (o : Operand8) (s : State), s.mem.wf = true →
    ∀ form ∈ [(resInstr b o, false), (setInstr b o, true)],
    ∃ t res, exec form.1 s = .next t ∧ Delivers o res s t ∧
      (∀ i, i < 8 → res.getLsbD i = if i = b.toNat then form.2 else (op8 o s).getLsbD i) ∧
      FlagsAndStackKept s t ∧ Retires 2 (costFor o 8 16) s t

/-! ### Control transfer -/

/-- R231 to R233, R230: absolute jumps; a jump not taken goes on at the next instruction and costs less. -/
def Obligations.AbsoluteJumps : Prop :=
  ∀ (w : Word) (cc : Cond) (s : State),
    ∀ form ∈ [(Instr.jpA16 w, w, 16), (.jpHL, getPair .hl s, 4),
      (jpInstr cc w, if cond cc s then w else s.pc + 3, if cond cc s then 16 else 12)],
    ∃ t, exec form.1 s = .next t ∧ t.pc = form.2.1 ∧ t.cycles = s.cycles + form.2.2 ∧
      RegisterFrame [] s t ∧ FlagsAndStackKept s t

/-- R234, R235, R230: relative jumps from the address after the instruction. -/
def Obligations.RelativeJumps : Prop :=
  ∀ (e : Byte) (cc : Cond) (s : State),
    ∀ form ∈ [(Instr.jrE8 e, true, 12), (jrInstr cc e, cond cc s, if cond cc s then 12 else 8)],
    ∃ t, exec form.1 s = .next t ∧
      (t.pc.toNat : Int) = ((s.pc.toNat : Int) + 2 + (if form.2.1 then e.toInt else 0)) % 65536 ∧
      t.cycles = s.cycles + form.2.2 ∧ RegisterFrame [] s t ∧ FlagsAndStackKept s t

/-- R236, R237, R241, R60: a call pushes the address after it and goes to its target; a call not taken touches neither SP
nor memory. -/
def Obligations.CallsPushReturnAddress : Prop :=
  ∀ (w : Word) (cc : Cond) (ttt : BitVec 3) (s : State), s.mem.wf = true →
    (∀ form ∈ [(Instr.callA16 w, w, 3, 24), (rstInstr ttt, BitVec.ofNat 16 (ttt.toNat * 8), 1, 16)],
      ∃ t, exec form.1 s = .next t ∧ t.pc = form.2.1 ∧ t.sp = s.sp - 2 ∧ t.f = s.f ∧
        StoresWord (s.sp - 2) (s.pc + BitVec.ofNat 16 form.2.2.1) s t ∧ StoreFrame [] s t ∧
        t.cycles = s.cycles + form.2.2.2) ∧
    (∃ t, exec (callInstr cc w) s = .next t ∧ t.f = s.f ∧ StoreFrame [] s t ∧
      if cond cc s then t.pc = w ∧ t.sp = s.sp - 2 ∧ StoresWord (s.sp - 2) (s.pc + 3) s t ∧ t.cycles = s.cycles + 24
      else t.pc = s.pc + 3 ∧ t.sp = s.sp ∧ MemoryKept s t ∧ t.cycles = s.cycles + 12)

/-- R238 to R240, R230, R61: a return pops PC; RETI also sets IME; a return not taken leaves SP. -/
def Obligations.ReturnsPopProgramCounter : Prop :=
  ∀ (cc : Cond) (s : State),
    (∃ t, exec .ret s = .next t ∧ t.pc = wordOf (read8 (s.sp + 1) s) (read8 s.sp s) ∧ t.sp = s.sp + 2 ∧ t.f = s.f ∧
      RegisterFrame [] s t ∧ t.cycles = s.cycles + 16) ∧
    (∃ t, exec .reti s = .next t ∧ t.pc = wordOf (read8 (s.sp + 1) s) (read8 s.sp s) ∧ t.sp = s.sp + 2 ∧ t.f = s.f ∧
      t.ime = true ∧ RegsKept [] s t ∧ MemoryKept s t ∧ DeviceKept s t ∧ t.cycles = s.cycles + 16) ∧
    (∃ t, exec (retInstr cc) s = .next t ∧ t.f = s.f ∧ RegisterFrame [] s t ∧
      if cond cc s then
        t.pc = wordOf (read8 (s.sp + 1) s) (read8 s.sp s) ∧ t.sp = s.sp + 2 ∧ t.cycles = s.cycles + 20
      else t.pc = s.pc + 1 ∧ t.sp = s.sp ∧ t.cycles = s.cycles + 8)

/-- R236, R238, conflict C8: a call followed at once by a return comes back to the instruction after the call with SP as
before, when both stack bytes lie at or above 0x8000. -/
def Obligations.CallThenReturnRestores : Prop :=
  ∀ (w : Word) (s : State), s.mem.wf = true → 0x8000 ≤ (s.sp - 2).toNat → 0x8000 ≤ (s.sp - 1).toNat →
    ∃ t u, exec (.callA16 w) s = .next t ∧ exec .ret t = .next u ∧ u.pc = s.pc + 3 ∧ u.sp = s.sp ∧
      u.cycles = s.cycles + 40

/-! ### Miscellaneous and the exception -/

/-- R250 to R252: NOP, DI and EI. -/
def Obligations.NopAndInterruptLatch : Prop :=
  ∀ (s : State), ∀ form ∈ [(Instr.nop, s.ime), (.di, false), (.ei, true)],
    ∃ t, exec form.1 s = .next t ∧ t.ime = form.2 ∧ RegsKept [] s t ∧ MemoryKept s t ∧ DeviceKept s t ∧
      FlagsAndStackKept s t ∧ Retires 1 4 s t

/-- R253 to R256, R260 to R262: HALT, STOP, the undefined bytes and an unimplemented CB byte record their address and bytes
and change nothing else, PC and the cycle total included. -/
def Obligations.UnimplementedOpcodeRecorded : Prop :=
  ∀ (s : State) (op2 : Byte), ∀ form ∈
    [(Instr.halt, [0x76#8]), (.stop, [0x10#8]), (.undefinedD3, [0xD3#8]), (.undefinedDB, [0xDB#8]),
     (.undefinedDD, [0xDD#8]), (.undefinedE3, [0xE3#8]), (.undefinedE4, [0xE4#8]), (.undefinedEB, [0xEB#8]),
     (.undefinedEC, [0xEC#8]), (.undefinedED, [0xED#8]), (.undefinedF4, [0xF4#8]), (.undefinedFC, [0xFC#8]),
     (.undefinedFD, [0xFD#8]), (.prefixCb op2, [0xCB#8, op2])],
    exec form.1 s = .next { s with fault := some { addr := s.pc, bytes := form.2 } }

/-- R255, R260, R262: a step whose opcode byte is HALT, STOP or undefined ends the run, for every interpreter, with nothing
changed but the record. -/
def Obligations.FatalByteEndsRun : Prop :=
  ∀ (k : Config.Interpreter) (s : State), s.fault = none →
    (read8 s.pc s).toNat ∈ [0x76, 0x10, 0xD3, 0xDB, 0xDD, 0xE3, 0xE4, 0xEB, 0xEC, 0xED, 0xF4, 0xFC, 0xFD] →
    ∃ t, stepWith k s = .next t ∧ t.fault.map FaultRecord.addr = some s.pc ∧
      t.fault.map FaultRecord.bytes = some [read8 s.pc s] ∧ { t with fault := none } = s

/-- R4, R82, R260 (a), (b), R261: an opcode that the interpreter leaves out is fatal before any effect; a byte after 0xCB
is reported with the 0xCB byte. -/
def Obligations.LeftOutOpcodeEndsRun : Prop :=
  ∀ (k : Config.Interpreter) (s : State), s.fault = none →
    (read8 s.pc s ≠ 0xCB → read8 s.pc s ∈ k.leftOutPrimary →
      stepWith k s = .next { s with fault := some { addr := s.pc, bytes := [read8 s.pc s] } }) ∧
    (read8 s.pc s = 0xCB → read8 (s.pc + 1) s ∈ k.leftOutCb →
      stepWith k s = .next { s with fault := some { addr := s.pc, bytes := [0xCB, read8 (s.pc + 1) s] } })

/-- R262, R301: a faulted state is terminal. -/
def Obligations.FaultedStateIsTerminal : Prop :=
  ∀ (k : Config.Interpreter) (s : State), s.fault ≠ none → stepWith k s = .next s

/-! ### Decoding -/

/-- R85 to R92: decoding an encoded well-formed instruction gives it back, whatever bytes follow. -/
def Obligations.DecodeOfEncode : Prop :=
  ∀ (i : Instr) (rest : List Byte), i.wf = true → decode (encode i ++ rest) = .ok (i, rest)

/-- R90 to R94: a decoded instruction's encoding is the bytes it was decoded from, but for the byte after STOP, which is
never looked at (R254). -/
def Obligations.EncodeOfDecode : Prop :=
  ∀ (bytes rest : List Byte) (i : Instr), decode bytes = .ok (i, rest) → i ≠ .stop →
    i.wf = true ∧ encode i ++ rest = bytes

/-- R83, R92, R94, R95: three bytes always decode, and the length is told by the first byte alone. -/
def Obligations.DecodeTotalWithLength : Prop :=
  ∀ (op b1 b2 : Byte) (rest : List Byte), ∃ i after, decode (op :: b1 :: b2 :: rest) = .ok (i, after) ∧
    i.wf = true ∧ after = (op :: b1 :: b2 :: rest).drop (lengthOf op) ∧
    lengthOf op + after.length = rest.length + 3 ∧ 1 ≤ lengthOf op ∧ lengthOf op ≤ 3 ∧ (op = 0xCB → lengthOf op = 2)

/-- R85 to R92: words written out from the encodings. -/
def Obligations.SampleWordsDecode : Prop :=
  decode [0b01_111_000] = .ok (.ldAB, []) ∧ decode [0b00_111_110, 0x05] = .ok (.ldAD8 0x05, []) ∧
  decode [0b00_11_0001, 0xFE, 0xFF] = .ok (.ldSPD16 0xFFFE, []) ∧ decode [0b10_011_100] = .ok (.sbcAH, []) ∧
  decode [0b00_10_1001] = .ok (.addHLHL, []) ∧ decode [0b110_11_010, 0x34, 0x12] = .ok (.jpCA16 0x1234, []) ∧
  decode [0b11_111_111] = .ok (.rst38, []) ∧ decode [0xCB, 0b00_110_111] = .ok (.swapA, []) ∧
  decode [0xCB, 0b01_111_100] = .ok (.bitH 7, []) ∧ decode [0b11_01_0101] = .ok (.pushDE, [])

/-! ### The system step -/

/-- R80, R301, R302: when the bytes at PC decode to an instruction, a step is the instruction followed by as many display
ticks as it added cycles, unless it faulted. -/
def Obligations.StepRunsDecodedInstruction : Prop :=
  ∀ (k : Config.Interpreter) (s t : State) (i : Instr) (rest : List Byte), s.fault = none →
    decodeWith k [read8 s.pc s, read8 (s.pc + 1) s, read8 (s.pc + 2) s] = .ok (i, rest) → exec i s = .next t →
    stepWith k s = .next (if t.fault = none then ticks (t.cycles - s.cycles) t else t)

/-- R309, R55, R260: a step always answers a next state; no bus access and no operand value stops the machine. -/
def Obligations.StepIsTotal : Prop := ∀ (k : Config.Interpreter) (s : State), ∃ t, stepWith k s = .next t

/-- R25, R32, R278: every step keeps the invariant. -/
def Obligations.StepKeepsInvariant : Prop :=
  ∀ (k : Config.Interpreter) (s t : State), Inv s → stepWith k s = .next t → Inv t

/-- R12, R37, R310, R313 to R315: reset is power-on with the reference parameters and no image, and it meets the
invariant. The register values and the entry address are the spec's reference choices (log entries 3 and 4). -/
def Obligations.ResetMeetsInvariant : Prop := powerOn Config.referenceLaunch = .next State.reset ∧ Inv State.reset

/-- R53, R69, R306: no step changes a byte below 0x8000. -/
def Obligations.StepKeepsRom : Prop :=
  ∀ (k : Config.Interpreter) (s t : State) (a : Word), a.toNat < 0x8000 → stepWith k s = .next t →
    read8 a t = read8 a s

/-- R300 to R302: a step moves the display through its frame by exactly the cycles the instruction cost, at least 4 and at
most 24 unless it faulted. -/
def Obligations.StepMovesDisplayByCost : Prop :=
  ∀ (k : Config.Interpreter) (s t : State), Inv s → stepWith k s = .next t →
    position t % dotsPerFrame = (position s + (t.cycles - s.cycles)) % dotsPerFrame ∧ s.cycles ≤ t.cycles ∧
      (t.fault = none → s.cycles + 4 ≤ t.cycles ∧ t.cycles ≤ s.cycles + 24)

/-- R30, R32, R35: no instruction reads IME, the display's own state or the framebuffer. -/
def Obligations.ExecutionIgnoresHiddenState : Prop :=
  ∀ (i : Instr) (s t : State) (ime : Bool) (dot line : Nat) (ready : Bool) (fb : List (List Shade)),
    exec i s = .next t → ∃ u, exec i (withHidden ime dot line ready fb s) = .next u ∧
      u = withHidden u.ime dot line ready fb t

/-- R319, R262: the driver loop stops at the first step boundary where PC is in `STOP_PCS` (a normal end) or a fault is
recorded (no normal end), with the state that many steps reach; where there is none it goes on for as long as it is let, and
a run with none at all never ends. That the state the driver starts from is a boundary too is the model's reading (log
entry 32). The conventional end is the self-loop `JR -2`, from which only the cycle total and the display move. -/
def Obligations.RunEndsAtFirstStop : Prop :=
  (∀ (l : Config.Launch) (n : Nat) (s : State), ∃ r, drive l n s = .next r ∧ r.steps ≤ n ∧
    runSteps l.interpreter r.steps s = .next r.state ∧
    r.status = (if r.state.fault ≠ none then .faulted else if r.state.pc ∈ l.stopPcs then .ended else .running) ∧
    (r.status = .running → r.steps = n) ∧
    (∀ m u, m < r.steps → runSteps l.interpreter m s = .next u → u.fault = none ∧ u.pc ∉ l.stopPcs)) ∧
  (∀ (l : Config.Launch) (s : State), neverEnds l s ↔
    ∀ n u, runSteps l.interpreter n s = .next u → u.fault = none ∧ u.pc ∉ l.stopPcs) ∧
  (∀ (k : Config.Interpreter) (s : State), s.fault = none → read8 s.pc s = 0x18 → read8 (s.pc + 1) s = 0xFE →
    0x18 ∉ k.leftOutPrimary → stepWith k s = .next (ticks 12 { s with cycles := s.cycles + 12 }))

/-! ### The display -/

/-- R272, R278, R279: a tick inside a line moves the dot alone; the tick that reaches line 144 writes 144 to LY and raises
frame-ready, and draws nothing; entering lines 145 to 153 writes nothing else. -/
def Obligations.TickOutsideVisibleLines : Prop :=
  ∀ s : State,
    (s.dot < 455 → tick s = { s with dot := s.dot + 1 }) ∧
    (s.mem.wf = true → s.dot = 455 → s.line = 143 →
      (tick s).dot = 0 ∧ (tick s).line = 144 ∧ (tick s).frameReady = true ∧ (tick s).fb = s.fb ∧
      StoresByte 0xFF44 144 s (tick s) ∧ (tick s).pc = s.pc ∧ (tick s).cycles = s.cycles ∧
      (∀ r, getReg8 r (tick s) = getReg8 r s)) ∧
    (s.dot = 455 → 144 ≤ s.line → s.line < 153 → tick s = { s with dot := 0, line := s.line + 1 })

/-- R272 to R274, R278: entering a visible line writes LY and rasterizes the line; passing line 153 goes to line 0 and
clears frame-ready in the same tick. -/
def Obligations.TickEntersVisibleLine : Prop :=
  ∀ (s : State) (ly : Nat), s.mem.wf = true → s.dot = 455 → ly < 144 → (s.line + 1 = ly ∨ (s.line = 153 ∧ ly = 0)) →
    (tick s).dot = 0 ∧ (tick s).line = ly ∧ (tick s).frameReady = (s.frameReady && decide (s.line ≠ 153)) ∧
    StoresByte 0xFF44 (BitVec.ofNat 8 ly) s (tick s) ∧
    (tick s).fb = s.fb.set ly ((List.range 160).map (pixel (tick s) ly)) ∧
    (tick s).pc = s.pc ∧ (tick s).cycles = s.cycles ∧ (∀ r, getReg8 r (tick s) = getReg8 r s)

/-- R275 to R277, R281: the shade of a pixel, as the index of the palette. -/
def Obligations.PixelFollowsTileMap : Prop :=
  ∀ (s : State) (ly x : Nat),
    let sy := (ly + (read8 0xFF42 s).toNat) % 256
    let sx := (x + (read8 0xFF43 s).toNat) % 256
    let t := (read8 (BitVec.ofNat 16 (0x9800 + sy / 8 * 32 + sx / 8)) s).toNat
    let lo := (read8 (BitVec.ofNat 16 (0x8000 + t * 16 + sy % 8 * 2)) s).toNat
    let hi := (read8 (BitVec.ofNat 16 (0x8000 + t * 16 + sy % 8 * 2 + 1)) s).toNat
    [Shade.white, .lightGray, .darkGray, .black][hi / 2 ^ (7 - sx % 8) % 2 * 2 + lo / 2 ^ (7 - sx % 8) % 2]? =
      some (pixel s ly x)

/-- R280: from the start of a frame, 456 k ticks reach dot 0 of line k; frame-ready is then raised from line 144 on, and a
whole frame comes back to line 0 with frame-ready clear. -/
def Obligations.FrameTiming : Prop :=
  ∀ (s : State) (k : Nat), s.dot = 0 → s.line = 0 → s.frameReady = false → k ≤ 154 →
    (ticks (456 * k) s).dot = 0 ∧ (ticks (456 * k) s).line = k % 154 ∧
      (ticks (456 * k) s).frameReady = decide (144 ≤ k % 154)

/-- R273, R279, R280: LY after 456 k ticks from the start of a frame: k up to line 144, then 144 until line 0. -/
def Obligations.LineRegisterTiming : Prop :=
  ∀ (s : State) (k : Nat), s.mem.wf = true → s.dot = 0 → s.line = 0 → 1 ≤ k → k ≤ 154 →
    (read8 0xFF44 (ticks (456 * k) s)).toNat = if k = 154 then 0 else min k 144

/-- R271, R273, R275: ticks write LY and no other byte, and touch no CPU state. -/
def Obligations.TicksWriteOnlyDisplayState : Prop :=
  ∀ (n : Nat) (s : State), (∀ a, a ≠ 0xFF44 → read8 a (ticks n s) = read8 a s) ∧
    (∀ r, getReg8 r (ticks n s) = getReg8 r s) ∧ (ticks n s).f = s.f ∧ (ticks n s).sp = s.sp ∧
    (ticks n s).pc = s.pc ∧ (ticks n s).ime = s.ime ∧ (ticks n s).cycles = s.cycles ∧ (ticks n s).fault = s.fault

/-- R283: while frame-ready stays raised over a step the framebuffer does not change. -/
def Obligations.FramebufferStableWhileReady : Prop :=
  ∀ (k : Config.Interpreter) (s t : State), Inv s → stepWith k s = .next t → s.frameReady = true →
    t.frameReady = true → t.fb = s.fb

/-! ### The Bus and power-on -/

/-- R52 to R54, R57: a word written at 0x8000 to 0xFFFE reads back; at 0xFFFF and at 0x7FFF one byte is dropped; below,
nothing is stored. -/
def Obligations.WordWriteThenRead : Prop :=
  ∀ (a v : Word) (s : State), s.mem.wf = true →
    (0x8000 ≤ a.toNat → a.toNat ≤ 0xFFFE → read16 a (write16 a v s) = v) ∧
    (a = 0xFFFF → read16 a (write16 a v s) = wordOf (read8 0x0000 s) (loByte v)) ∧
    (a = 0x7FFF → read16 a (write16 a v s) = wordOf (hiByte v) (read8 a s)) ∧
    (a.toNat < 0x7FFF → write16 a v s = s)

/-- R310 to R315, R37: power-on with a 256-byte boot image and a cartridge of at most 65536 bytes. -/
def Obligations.PowerOnLoadsImages : Prop :=
  ∀ (l : Config.Launch) (cart boot : List Byte), l.cart = .image cart → l.boot = .image boot → boot.length = 256 →
    cart.length ≤ 65536 → ∃ s, powerOn l = .next s ∧
      (∀ a : Word, read8 a s = if a.toNat < 256 then boot.getD a.toNat 0 else cart.getD a.toNat 0) ∧
      s.pc = l.entryPc ∧ s.sp = l.resetRegs.sp ∧ s.a = l.resetRegs.a ∧ s.f = l.resetRegs.f ∧ s.b = l.resetRegs.b ∧
      s.c = l.resetRegs.c ∧ s.d = l.resetRegs.d ∧ s.e = l.resetRegs.e ∧ s.h = l.resetRegs.h ∧ s.l = l.resetRegs.l ∧
      s.ime = false ∧ s.cycles = 0 ∧ s.dot = 0 ∧ s.line = 0 ∧ s.frameReady = false ∧ s.fb = l.fbReset ∧ s.fault = none

/-- R263, R12: an allowed launch either yields a state that meets the invariant or fails; it fails exactly on an unusable
image, and reports the boot image first. -/
def Obligations.PowerOnMeetsInvariantOrFails : Prop :=
  ∀ l : Config.Launch, launchOk l = true →
    let bootBad := l.boot = .unreadable ∨ ∃ b, l.boot = .image b ∧ b.length ≠ 256
    let cartBad := l.cart = .unreadable ∨ ∃ c, l.cart = .image c ∧ 65536 < c.length
    (bootBad → powerOn l = .fault (.resourceLoadFailure .boot)) ∧
    (¬ bootBad → cartBad → powerOn l = .fault (.resourceLoadFailure .cartridge)) ∧
    (¬ bootBad → ¬ cartBad → ∃ s, powerOn l = .next s ∧ Inv s)
end

