-- ==== Sys2Proof/Laws/Memory.lean ====
section
/-! SUPPORT. Laws of the store and the Bus: a read after a write, and that every memory operation keeps the canonical
form. -/

namespace Sys2Proof.Machine

theorem Memory.read_write_same (m : Memory) (a : Nat) (v : Byte) (lo : Nat) (h : m.wfFrom lo = true) :
    (m.write a v).read a = v := by
  induction m generalizing lo with
  | nil => by_cases hv : v = Memory.unlisted <;> simp [Memory.write, Memory.read, hv]
  | cons kw rest ih =>
    obtain ⟨k, w⟩ := kw
    simp only [Memory.wfFrom, Bool.and_eq_true, decide_eq_true_eq] at h
    obtain ⟨⟨⟨-, -⟩, -⟩, hr⟩ := h
    have above : ∀ (n : Nat) (l : Memory), l.wfFrom n = true → a < n → l.read a = Memory.unlisted := by
      intro n l
      induction l generalizing n with
      | nil => intros; rfl
      | cons p l ihl =>
        obtain ⟨q, x⟩ := p
        intro hl ha
        simp only [Memory.wfFrom, Bool.and_eq_true, decide_eq_true_eq] at hl
        have : q ≠ a := by omega
        simp only [Memory.read, this, if_false]
        exact ihl (q + 1) hl.2 (by omega)
    unfold Memory.write
    split
    · next hk =>
      have : k ≠ a := by omega
      simp only [Memory.read, this, if_false]
      exact ih (k + 1) hr
    · split
      · next hk =>
        split
        · next hv => rw [above (k + 1) rest hr (by omega), hv]
        · simp [Memory.read]
      · next hlt hne =>
        split
        · next hv =>
          simp only [Memory.read, hne, if_false]
          rw [above (k + 1) rest hr (by omega), hv]
        · simp [Memory.read]

theorem Memory.read_write_other (m : Memory) (a b : Nat) (v : Byte) (h : b ≠ a) :
    (m.write a v).read b = m.read b := by
  induction m with
  | nil => by_cases hv : v = Memory.unlisted <;> simp [Memory.write, Memory.read, hv, Ne.symm h]
  | cons kw rest ih =>
    obtain ⟨k, w⟩ := kw
    unfold Memory.write
    split
    · simp only [Memory.read, ih]
    · split
      · next hk =>
        have hkb : k ≠ b := by omega
        split <;> simp [Memory.read, hkb, Ne.symm h]
      · split <;> simp [Memory.read, Ne.symm h]

theorem Memory.write_wfFrom (m : Memory) (a : Nat) (v : Byte) (lo : Nat) (h : m.wfFrom lo = true) (hlo : lo ≤ a)
    (ha : a < 65536) : (m.write a v).wfFrom lo = true := by
  induction m generalizing lo with
  | nil => by_cases hv : v = Memory.unlisted <;> simp [Memory.write, Memory.wfFrom, hv, hlo, ha]
  | cons kw rest ih =>
    obtain ⟨k, w⟩ := kw
    simp only [Memory.wfFrom, Bool.and_eq_true, decide_eq_true_eq] at h
    obtain ⟨⟨⟨hk, hb⟩, hw⟩, hr⟩ := h
    have weaken : ∀ (l : Memory) (n p : Nat), l.wfFrom n = true → p ≤ n → l.wfFrom p = true := by
      intro l n p
      cases l with
      | nil => intros; rfl
      | cons q l =>
        intro hl hp
        simp only [Memory.wfFrom, Bool.and_eq_true, decide_eq_true_eq] at hl ⊢
        exact ⟨⟨⟨by omega, hl.1.1.2⟩, hl.1.2⟩, hl.2⟩
    unfold Memory.write
    split
    · next hlt =>
      simp only [Memory.wfFrom, Bool.and_eq_true, decide_eq_true_eq]
      exact ⟨⟨⟨hk, hb⟩, hw⟩, ih (k + 1) hr (by omega)⟩
    · split
      · next hka =>
        split
        · exact weaken rest (k + 1) lo hr (by omega)
        · next hv =>
          simp only [Memory.wfFrom, Bool.and_eq_true, decide_eq_true_eq]
          exact ⟨⟨⟨hlo, ha⟩, hv⟩, hka ▸ hr⟩
      · next hlt hne =>
        split
        · simp only [Memory.wfFrom, Bool.and_eq_true, decide_eq_true_eq]
          exact ⟨⟨⟨hk, hb⟩, hw⟩, hr⟩
        · next hv =>
          simp only [Memory.wfFrom, Bool.and_eq_true, decide_eq_true_eq]
          exact ⟨⟨⟨hlo, ha⟩, hv⟩, ⟨⟨by omega, hb⟩, hw⟩, hr⟩

/-- A store keeps the canonical form. -/
theorem Memory.write_wf (m : Memory) (a : Nat) (v : Byte) (h : m.wf = true) (ha : a < 65536) :
    (m.write a v).wf = true := Memory.write_wfFrom m a v 0 h (Nat.zero_le a) ha

/-- The loader keeps the canonical form. -/
theorem Memory.load_wf (m : Memory) (a : Nat) (bytes : List Byte) (h : m.wf = true) (ha : a + bytes.length ≤ 65536) :
    (m.load a bytes).wf = true := by
  induction bytes generalizing m a with
  | nil => exact h
  | cons v rest ih =>
    simp only [List.length_cons] at ha
    exact ih (m.write a v) (a + 1) (Memory.write_wf m a v h (by omega)) (by omega)

/-! ### The Bus -/

theorem write8_below (addr : Word) (v : Byte) (s : State) (h : addr.toNat < 0x8000) : write8 addr v s = s := by
  simp [write8, romBoundary, h]

theorem write8_mem (addr : Word) (v : Byte) (s : State) (h : 0x8000 ≤ addr.toNat) :
    (write8 addr v s).mem = s.mem.write addr.toNat v := by
  simp [write8, romBoundary, Nat.not_lt.mpr h]

theorem read8_write8_other (addr a : Word) (v : Byte) (s : State) (h : a ≠ addr) :
    read8 a (write8 addr v s) = read8 a s := by
  unfold write8
  split
  · rfl
  · exact Memory.read_write_other _ _ _ _ (fun e => h (BitVec.eq_of_toNat_eq e))

theorem read8_write8_same (addr : Word) (v : Byte) (s : State) (hm : s.mem.wf = true) :
    read8 addr (write8 addr v s) = if addr.toNat < 0x8000 then read8 addr s else v := by
  unfold write8 romBoundary
  split
  · rfl
  · exact Memory.read_write_same _ _ _ 0 hm

theorem write8_wf (addr : Word) (v : Byte) (s : State) (hm : s.mem.wf = true) : (write8 addr v s).mem.wf = true := by
  unfold write8
  split
  · exact hm
  · exact Memory.write_wf _ _ _ hm addr.isLt

/-- A guarded write never changes a byte below the boundary. -/
theorem read8_write8_rom (addr a : Word) (v : Byte) (s : State) (ha : a.toNat < 0x8000) :
    read8 a (write8 addr v s) = read8 a s := by
  by_cases h : a = addr
  · subst h; rw [write8_below _ _ _ ha]
  · exact read8_write8_other _ _ _ _ h

theorem write16_wf (addr v : Word) (s : State) (hm : s.mem.wf = true) : (write16 addr v s).mem.wf = true :=
  write8_wf _ _ _ (write8_wf _ _ _ hm)

theorem read8_write16_rom (addr a v : Word) (s : State) (ha : a.toNat < 0x8000) :
    read8 a (write16 addr v s) = read8 a s := by
  unfold write16; rw [read8_write8_rom _ _ _ _ ha, read8_write8_rom _ _ _ _ ha]

theorem read8_write16_other (addr a v : Word) (s : State) (h0 : a ≠ addr) (h1 : a ≠ addr + 1) :
    read8 a (write16 addr v s) = read8 a s := by
  unfold write16; rw [read8_write8_other _ _ _ _ h1, read8_write8_other _ _ _ _ h0]

/-- Two neighbouring addresses differ, also where the second wraps. -/
theorem succ_ne (addr : Word) : addr + 1 ≠ addr := by
  intro h
  have := congrArg BitVec.toNat h
  simp [BitVec.toNat_add] at this
  omega

theorem read8_write16_low (addr v : Word) (s : State) (hm : s.mem.wf = true) :
    read8 addr (write16 addr v s) = if addr.toNat < 0x8000 then read8 addr s else loByte v := by
  unfold write16
  rw [read8_write8_other _ _ _ _ (Ne.symm (succ_ne addr)), read8_write8_same _ _ _ hm]

theorem read8_write16_high (addr v : Word) (s : State) (hm : s.mem.wf = true) :
    read8 (addr + 1) (write16 addr v s) = if (addr + 1).toNat < 0x8000 then read8 (addr + 1) s else hiByte v := by
  unfold write16
  rw [read8_write8_same _ _ _ (write8_wf _ _ _ hm), read8_write8_other _ _ _ _ (succ_ne addr)]

/-! ### Bytes and words -/

theorem wordOf_bytes (v : Word) : wordOf (hiByte v) (loByte v) = v := by
  unfold wordOf hiByte loByte
  ext i hi
  simp only [BitVec.getElem_append, BitVec.getElem_extractLsb']
  split
  · simp [BitVec.getLsbD_eq_getElem hi]
  · have : 8 + (i - 8) = i := by omega
    rw [this, BitVec.getLsbD_eq_getElem hi]

theorem hiByte_wordOf (hi lo : Byte) : hiByte (wordOf hi lo) = hi := by
  unfold wordOf hiByte
  ext i h
  rw [BitVec.getElem_extractLsb']
  exact (BitVec.getLsbD_append (x := hi) (y := lo) (i := 8 + i)).trans (by simp [BitVec.getLsbD_eq_getElem h])

theorem loByte_wordOf (hi lo : Byte) : loByte (wordOf hi lo) = lo := by
  unfold wordOf loByte
  ext i h
  rw [BitVec.getElem_extractLsb']
  exact (BitVec.getLsbD_append (x := hi) (y := lo) (i := 0 + i)).trans (by simp [h])

end Sys2Proof.Machine
end

