-- ==== Sys2Proof/Laws/Decode.lean ====
section
/-! SUPPORT. What the decoder does with each shape of the primary map, so that no proof unfolds it. -/

namespace Sys2Proof

open Sys2Proof.Machine

theorem decodeWith_plain (k : Config.Interpreter) (op : Byte) (i : Instr) (rest : List Byte) (h : primary op = .plain i) :
    decodeWith k (op :: rest) =
      if k.leftOutPrimary.contains op then .error (.notImplemented op) else .ok (i, rest) := by
  simp only [decodeWith, h]

theorem decodeWith_padded (k : Config.Interpreter) (op : Byte) (i : Instr) (rest : List Byte)
    (h : primary op = .padded i) : decodeWith k (op :: rest) = .ok (i, rest.drop 1) := by
  simp only [decodeWith, h]

theorem decodeWith_byteImm (k : Config.Interpreter) (op v : Byte) (f : Byte → Instr) (rest : List Byte)
    (h : primary op = .byteImm f) : decodeWith k (op :: v :: rest) =
      if k.leftOutPrimary.contains op then .error (.notImplemented op) else .ok (f v, rest) := by
  simp only [decodeWith, h]

theorem decodeWith_wordImm (k : Config.Interpreter) (op lo hi : Byte) (f : Word → Instr) (rest : List Byte)
    (h : primary op = .wordImm f) : decodeWith k (op :: lo :: hi :: rest) =
      if k.leftOutPrimary.contains op then .error (.notImplemented op) else .ok (f (wordOf hi lo), rest) := by
  simp only [decodeWith, h]

theorem decodeWith_cbPage (k : Config.Interpreter) (op2 : Byte) (rest : List Byte) :
    decodeWith k (0xCB :: op2 :: rest) =
      if k.leftOutCb.contains op2 then .ok (.prefixCb op2, rest) else .ok (secondary op2, rest) := rfl

/-- The only byte that opens the secondary page (R90). -/
theorem primary_cbPage (op : Byte) (h : primary op = .cbPage) : op = 0xCB := by
  have key : ∀ op : Byte, (match primary op with | .cbPage => true | _ => false) = true → op = 0xCB := by decide +kernel
  exact key op (by rw [h])

/-- The only byte with a padding byte (R254). -/
theorem primary_padded (op : Byte) (i : Instr) (h : primary op = .padded i) : op = 0x10 ∧ i = .stop := by
  have key : ∀ op : Byte, (match primary op with | .padded i => decide (i = .stop) | _ => false) = true ∨
      (match primary op with | .padded _ => true | _ => false) = false := by decide +kernel
  have key2 : ∀ op : Byte, (match primary op with | .padded _ => true | _ => false) = true → op = 0x10 := by
    decide +kernel
  refine ⟨key2 op (by rw [h]), ?_⟩
  rcases key op with k | k
  · rw [h] at k; simpa using k
  · rw [h] at k; cases k

/-- The word an instruction's two immediate bytes encode. -/
theorem decode_wordImm (op : Byte) (w : Word) (f : Word → Instr) (rest : List Byte) (h : primary op = .wordImm f) :
    decode (op :: loByte w :: hiByte w :: rest) = .ok (f w, rest) := by
  unfold decode
  rw [decodeWith_wordImm _ _ _ _ _ _ h, wordOf_bytes]
  rfl

end Sys2Proof
end

