-- ==== Sys2Proof/Laws/State.lean ====
section
/-! SUPPORT. The small lemmas of the state's named updates: what each field is after each of them, so that no later proof
unfolds a record update. -/

namespace Sys2Proof.Machine

/-! ### `retire` -/

@[simp] theorem retire_a (len cost : Nat) (s : State) : (retire len cost s).a = s.a := rfl
@[simp] theorem retire_f (len cost : Nat) (s : State) : (retire len cost s).f = s.f := rfl
@[simp] theorem retire_b (len cost : Nat) (s : State) : (retire len cost s).b = s.b := rfl
@[simp] theorem retire_c (len cost : Nat) (s : State) : (retire len cost s).c = s.c := rfl
@[simp] theorem retire_d (len cost : Nat) (s : State) : (retire len cost s).d = s.d := rfl
@[simp] theorem retire_e (len cost : Nat) (s : State) : (retire len cost s).e = s.e := rfl
@[simp] theorem retire_h (len cost : Nat) (s : State) : (retire len cost s).h = s.h := rfl
@[simp] theorem retire_l (len cost : Nat) (s : State) : (retire len cost s).l = s.l := rfl
@[simp] theorem retire_sp (len cost : Nat) (s : State) : (retire len cost s).sp = s.sp := rfl
@[simp] theorem retire_pc (len cost : Nat) (s : State) : (retire len cost s).pc = s.pc + BitVec.ofNat 16 len := rfl
@[simp] theorem retire_ime (len cost : Nat) (s : State) : (retire len cost s).ime = s.ime := rfl
@[simp] theorem retire_cycles (len cost : Nat) (s : State) : (retire len cost s).cycles = s.cycles + cost := rfl
@[simp] theorem retire_mem (len cost : Nat) (s : State) : (retire len cost s).mem = s.mem := rfl
@[simp] theorem retire_dot (len cost : Nat) (s : State) : (retire len cost s).dot = s.dot := rfl
@[simp] theorem retire_line (len cost : Nat) (s : State) : (retire len cost s).line = s.line := rfl
@[simp] theorem retire_frameReady (len cost : Nat) (s : State) : (retire len cost s).frameReady = s.frameReady := rfl
@[simp] theorem retire_fb (len cost : Nat) (s : State) : (retire len cost s).fb = s.fb := rfl
@[simp] theorem retire_fault (len cost : Nat) (s : State) : (retire len cost s).fault = s.fault := rfl

/-! ### `raiseUnimplemented` -/

@[simp] theorem raiseUnimplemented_a (bytes : List Byte) (s : State) : (raiseUnimplemented bytes s).a = s.a := rfl
@[simp] theorem raiseUnimplemented_f (bytes : List Byte) (s : State) : (raiseUnimplemented bytes s).f = s.f := rfl
@[simp] theorem raiseUnimplemented_b (bytes : List Byte) (s : State) : (raiseUnimplemented bytes s).b = s.b := rfl
@[simp] theorem raiseUnimplemented_c (bytes : List Byte) (s : State) : (raiseUnimplemented bytes s).c = s.c := rfl
@[simp] theorem raiseUnimplemented_d (bytes : List Byte) (s : State) : (raiseUnimplemented bytes s).d = s.d := rfl
@[simp] theorem raiseUnimplemented_e (bytes : List Byte) (s : State) : (raiseUnimplemented bytes s).e = s.e := rfl
@[simp] theorem raiseUnimplemented_h (bytes : List Byte) (s : State) : (raiseUnimplemented bytes s).h = s.h := rfl
@[simp] theorem raiseUnimplemented_l (bytes : List Byte) (s : State) : (raiseUnimplemented bytes s).l = s.l := rfl
@[simp] theorem raiseUnimplemented_sp (bytes : List Byte) (s : State) : (raiseUnimplemented bytes s).sp = s.sp := rfl
@[simp] theorem raiseUnimplemented_pc (bytes : List Byte) (s : State) : (raiseUnimplemented bytes s).pc = s.pc := rfl
@[simp] theorem raiseUnimplemented_ime (bytes : List Byte) (s : State) : (raiseUnimplemented bytes s).ime = s.ime := rfl
@[simp] theorem raiseUnimplemented_cycles (bytes : List Byte) (s : State) : (raiseUnimplemented bytes s).cycles = s.cycles := rfl
@[simp] theorem raiseUnimplemented_mem (bytes : List Byte) (s : State) : (raiseUnimplemented bytes s).mem = s.mem := rfl
@[simp] theorem raiseUnimplemented_dot (bytes : List Byte) (s : State) : (raiseUnimplemented bytes s).dot = s.dot := rfl
@[simp] theorem raiseUnimplemented_line (bytes : List Byte) (s : State) : (raiseUnimplemented bytes s).line = s.line := rfl
@[simp] theorem raiseUnimplemented_frameReady (bytes : List Byte) (s : State) : (raiseUnimplemented bytes s).frameReady = s.frameReady := rfl
@[simp] theorem raiseUnimplemented_fb (bytes : List Byte) (s : State) : (raiseUnimplemented bytes s).fb = s.fb := rfl
@[simp] theorem raiseUnimplemented_fault (bytes : List Byte) (s : State) : (raiseUnimplemented bytes s).fault = some { addr := s.pc, bytes := bytes } := rfl

/-! ### `popped` -/

@[simp] theorem popped_a (s : State) : (popped s).a = s.a := rfl
@[simp] theorem popped_f (s : State) : (popped s).f = s.f := rfl
@[simp] theorem popped_b (s : State) : (popped s).b = s.b := rfl
@[simp] theorem popped_c (s : State) : (popped s).c = s.c := rfl
@[simp] theorem popped_d (s : State) : (popped s).d = s.d := rfl
@[simp] theorem popped_e (s : State) : (popped s).e = s.e := rfl
@[simp] theorem popped_h (s : State) : (popped s).h = s.h := rfl
@[simp] theorem popped_l (s : State) : (popped s).l = s.l := rfl
@[simp] theorem popped_sp (s : State) : (popped s).sp = s.sp + 2 := rfl
@[simp] theorem popped_pc (s : State) : (popped s).pc = s.pc := rfl
@[simp] theorem popped_ime (s : State) : (popped s).ime = s.ime := rfl
@[simp] theorem popped_cycles (s : State) : (popped s).cycles = s.cycles := rfl
@[simp] theorem popped_mem (s : State) : (popped s).mem = s.mem := rfl
@[simp] theorem popped_dot (s : State) : (popped s).dot = s.dot := rfl
@[simp] theorem popped_line (s : State) : (popped s).line = s.line := rfl
@[simp] theorem popped_frameReady (s : State) : (popped s).frameReady = s.frameReady := rfl
@[simp] theorem popped_fb (s : State) : (popped s).fb = s.fb := rfl
@[simp] theorem popped_fault (s : State) : (popped s).fault = s.fault := rfl

/-! ### `putAllFlags` -/

@[simp] theorem putAllFlags_a (z n h c : Bool) (s : State) : (putAllFlags z n h c s).a = s.a := rfl
@[simp] theorem putAllFlags_f (z n h c : Bool) (s : State) : (putAllFlags z n h c s).f = flagsByte z n h c := rfl
@[simp] theorem putAllFlags_b (z n h c : Bool) (s : State) : (putAllFlags z n h c s).b = s.b := rfl
@[simp] theorem putAllFlags_c (z n h c : Bool) (s : State) : (putAllFlags z n h c s).c = s.c := rfl
@[simp] theorem putAllFlags_d (z n h c : Bool) (s : State) : (putAllFlags z n h c s).d = s.d := rfl
@[simp] theorem putAllFlags_e (z n h c : Bool) (s : State) : (putAllFlags z n h c s).e = s.e := rfl
@[simp] theorem putAllFlags_h (z n h c : Bool) (s : State) : (putAllFlags z n h c s).h = s.h := rfl
@[simp] theorem putAllFlags_l (z n h c : Bool) (s : State) : (putAllFlags z n h c s).l = s.l := rfl
@[simp] theorem putAllFlags_sp (z n h c : Bool) (s : State) : (putAllFlags z n h c s).sp = s.sp := rfl
@[simp] theorem putAllFlags_pc (z n h c : Bool) (s : State) : (putAllFlags z n h c s).pc = s.pc := rfl
@[simp] theorem putAllFlags_ime (z n h c : Bool) (s : State) : (putAllFlags z n h c s).ime = s.ime := rfl
@[simp] theorem putAllFlags_cycles (z n h c : Bool) (s : State) : (putAllFlags z n h c s).cycles = s.cycles := rfl
@[simp] theorem putAllFlags_mem (z n h c : Bool) (s : State) : (putAllFlags z n h c s).mem = s.mem := rfl
@[simp] theorem putAllFlags_dot (z n h c : Bool) (s : State) : (putAllFlags z n h c s).dot = s.dot := rfl
@[simp] theorem putAllFlags_line (z n h c : Bool) (s : State) : (putAllFlags z n h c s).line = s.line := rfl
@[simp] theorem putAllFlags_frameReady (z n h c : Bool) (s : State) : (putAllFlags z n h c s).frameReady = s.frameReady := rfl
@[simp] theorem putAllFlags_fb (z n h c : Bool) (s : State) : (putAllFlags z n h c s).fb = s.fb := rfl
@[simp] theorem putAllFlags_fault (z n h c : Bool) (s : State) : (putAllFlags z n h c s).fault = s.fault := rfl

/-! ### `putFlags` -/

@[simp] theorem putFlags_a (z n h c : Option Bool) (s : State) : (putFlags z n h c s).a = s.a := rfl
@[simp] theorem putFlags_b (z n h c : Option Bool) (s : State) : (putFlags z n h c s).b = s.b := rfl
@[simp] theorem putFlags_c (z n h c : Option Bool) (s : State) : (putFlags z n h c s).c = s.c := rfl
@[simp] theorem putFlags_d (z n h c : Option Bool) (s : State) : (putFlags z n h c s).d = s.d := rfl
@[simp] theorem putFlags_e (z n h c : Option Bool) (s : State) : (putFlags z n h c s).e = s.e := rfl
@[simp] theorem putFlags_h (z n h c : Option Bool) (s : State) : (putFlags z n h c s).h = s.h := rfl
@[simp] theorem putFlags_l (z n h c : Option Bool) (s : State) : (putFlags z n h c s).l = s.l := rfl
@[simp] theorem putFlags_sp (z n h c : Option Bool) (s : State) : (putFlags z n h c s).sp = s.sp := rfl
@[simp] theorem putFlags_pc (z n h c : Option Bool) (s : State) : (putFlags z n h c s).pc = s.pc := rfl
@[simp] theorem putFlags_ime (z n h c : Option Bool) (s : State) : (putFlags z n h c s).ime = s.ime := rfl
@[simp] theorem putFlags_cycles (z n h c : Option Bool) (s : State) : (putFlags z n h c s).cycles = s.cycles := rfl
@[simp] theorem putFlags_mem (z n h c : Option Bool) (s : State) : (putFlags z n h c s).mem = s.mem := rfl
@[simp] theorem putFlags_dot (z n h c : Option Bool) (s : State) : (putFlags z n h c s).dot = s.dot := rfl
@[simp] theorem putFlags_line (z n h c : Option Bool) (s : State) : (putFlags z n h c s).line = s.line := rfl
@[simp] theorem putFlags_frameReady (z n h c : Option Bool) (s : State) : (putFlags z n h c s).frameReady = s.frameReady := rfl
@[simp] theorem putFlags_fb (z n h c : Option Bool) (s : State) : (putFlags z n h c s).fb = s.fb := rfl
@[simp] theorem putFlags_fault (z n h c : Option Bool) (s : State) : (putFlags z n h c s).fault = s.fault := rfl

/-! ### `setIme` -/

@[simp] theorem setIme_a (v : Bool) (s : State) : (setIme v s).a = s.a := rfl
@[simp] theorem setIme_f (v : Bool) (s : State) : (setIme v s).f = s.f := rfl
@[simp] theorem setIme_b (v : Bool) (s : State) : (setIme v s).b = s.b := rfl
@[simp] theorem setIme_c (v : Bool) (s : State) : (setIme v s).c = s.c := rfl
@[simp] theorem setIme_d (v : Bool) (s : State) : (setIme v s).d = s.d := rfl
@[simp] theorem setIme_e (v : Bool) (s : State) : (setIme v s).e = s.e := rfl
@[simp] theorem setIme_h (v : Bool) (s : State) : (setIme v s).h = s.h := rfl
@[simp] theorem setIme_l (v : Bool) (s : State) : (setIme v s).l = s.l := rfl
@[simp] theorem setIme_sp (v : Bool) (s : State) : (setIme v s).sp = s.sp := rfl
@[simp] theorem setIme_pc (v : Bool) (s : State) : (setIme v s).pc = s.pc := rfl
@[simp] theorem setIme_ime (v : Bool) (s : State) : (setIme v s).ime = v := rfl
@[simp] theorem setIme_cycles (v : Bool) (s : State) : (setIme v s).cycles = s.cycles := rfl
@[simp] theorem setIme_mem (v : Bool) (s : State) : (setIme v s).mem = s.mem := rfl
@[simp] theorem setIme_dot (v : Bool) (s : State) : (setIme v s).dot = s.dot := rfl
@[simp] theorem setIme_line (v : Bool) (s : State) : (setIme v s).line = s.line := rfl
@[simp] theorem setIme_frameReady (v : Bool) (s : State) : (setIme v s).frameReady = s.frameReady := rfl
@[simp] theorem setIme_fb (v : Bool) (s : State) : (setIme v s).fb = s.fb := rfl
@[simp] theorem setIme_fault (v : Bool) (s : State) : (setIme v s).fault = s.fault := rfl

/-! ### `jumpTo` -/

@[simp] theorem jumpTo_a (t : Word) (s : State) : (jumpTo t s).a = s.a := rfl
@[simp] theorem jumpTo_f (t : Word) (s : State) : (jumpTo t s).f = s.f := rfl
@[simp] theorem jumpTo_b (t : Word) (s : State) : (jumpTo t s).b = s.b := rfl
@[simp] theorem jumpTo_c (t : Word) (s : State) : (jumpTo t s).c = s.c := rfl
@[simp] theorem jumpTo_d (t : Word) (s : State) : (jumpTo t s).d = s.d := rfl
@[simp] theorem jumpTo_e (t : Word) (s : State) : (jumpTo t s).e = s.e := rfl
@[simp] theorem jumpTo_h (t : Word) (s : State) : (jumpTo t s).h = s.h := rfl
@[simp] theorem jumpTo_l (t : Word) (s : State) : (jumpTo t s).l = s.l := rfl
@[simp] theorem jumpTo_sp (t : Word) (s : State) : (jumpTo t s).sp = s.sp := rfl
@[simp] theorem jumpTo_pc (t : Word) (s : State) : (jumpTo t s).pc = t := rfl
@[simp] theorem jumpTo_ime (t : Word) (s : State) : (jumpTo t s).ime = s.ime := rfl
@[simp] theorem jumpTo_cycles (t : Word) (s : State) : (jumpTo t s).cycles = s.cycles := rfl
@[simp] theorem jumpTo_mem (t : Word) (s : State) : (jumpTo t s).mem = s.mem := rfl
@[simp] theorem jumpTo_dot (t : Word) (s : State) : (jumpTo t s).dot = s.dot := rfl
@[simp] theorem jumpTo_line (t : Word) (s : State) : (jumpTo t s).line = s.line := rfl
@[simp] theorem jumpTo_frameReady (t : Word) (s : State) : (jumpTo t s).frameReady = s.frameReady := rfl
@[simp] theorem jumpTo_fb (t : Word) (s : State) : (jumpTo t s).fb = s.fb := rfl
@[simp] theorem jumpTo_fault (t : Word) (s : State) : (jumpTo t s).fault = s.fault := rfl

/-! ### `jumpRelative` -/

@[simp] theorem jumpRelative_a (e : Byte) (s : State) : (jumpRelative e s).a = s.a := rfl
@[simp] theorem jumpRelative_f (e : Byte) (s : State) : (jumpRelative e s).f = s.f := rfl
@[simp] theorem jumpRelative_b (e : Byte) (s : State) : (jumpRelative e s).b = s.b := rfl
@[simp] theorem jumpRelative_c (e : Byte) (s : State) : (jumpRelative e s).c = s.c := rfl
@[simp] theorem jumpRelative_d (e : Byte) (s : State) : (jumpRelative e s).d = s.d := rfl
@[simp] theorem jumpRelative_e (e : Byte) (s : State) : (jumpRelative e s).e = s.e := rfl
@[simp] theorem jumpRelative_h (e : Byte) (s : State) : (jumpRelative e s).h = s.h := rfl
@[simp] theorem jumpRelative_l (e : Byte) (s : State) : (jumpRelative e s).l = s.l := rfl
@[simp] theorem jumpRelative_sp (e : Byte) (s : State) : (jumpRelative e s).sp = s.sp := rfl
@[simp] theorem jumpRelative_pc (e : Byte) (s : State) : (jumpRelative e s).pc = s.pc + sext16 e := rfl
@[simp] theorem jumpRelative_ime (e : Byte) (s : State) : (jumpRelative e s).ime = s.ime := rfl
@[simp] theorem jumpRelative_cycles (e : Byte) (s : State) : (jumpRelative e s).cycles = s.cycles := rfl
@[simp] theorem jumpRelative_mem (e : Byte) (s : State) : (jumpRelative e s).mem = s.mem := rfl
@[simp] theorem jumpRelative_dot (e : Byte) (s : State) : (jumpRelative e s).dot = s.dot := rfl
@[simp] theorem jumpRelative_line (e : Byte) (s : State) : (jumpRelative e s).line = s.line := rfl
@[simp] theorem jumpRelative_frameReady (e : Byte) (s : State) : (jumpRelative e s).frameReady = s.frameReady := rfl
@[simp] theorem jumpRelative_fb (e : Byte) (s : State) : (jumpRelative e s).fb = s.fb := rfl
@[simp] theorem jumpRelative_fault (e : Byte) (s : State) : (jumpRelative e s).fault = s.fault := rfl

/-! ### `rasterize` -/

@[simp] theorem rasterize_a (ly : Nat) (s : State) : (rasterize ly s).a = s.a := rfl
@[simp] theorem rasterize_f (ly : Nat) (s : State) : (rasterize ly s).f = s.f := rfl
@[simp] theorem rasterize_b (ly : Nat) (s : State) : (rasterize ly s).b = s.b := rfl
@[simp] theorem rasterize_c (ly : Nat) (s : State) : (rasterize ly s).c = s.c := rfl
@[simp] theorem rasterize_d (ly : Nat) (s : State) : (rasterize ly s).d = s.d := rfl
@[simp] theorem rasterize_e (ly : Nat) (s : State) : (rasterize ly s).e = s.e := rfl
@[simp] theorem rasterize_h (ly : Nat) (s : State) : (rasterize ly s).h = s.h := rfl
@[simp] theorem rasterize_l (ly : Nat) (s : State) : (rasterize ly s).l = s.l := rfl
@[simp] theorem rasterize_sp (ly : Nat) (s : State) : (rasterize ly s).sp = s.sp := rfl
@[simp] theorem rasterize_pc (ly : Nat) (s : State) : (rasterize ly s).pc = s.pc := rfl
@[simp] theorem rasterize_ime (ly : Nat) (s : State) : (rasterize ly s).ime = s.ime := rfl
@[simp] theorem rasterize_cycles (ly : Nat) (s : State) : (rasterize ly s).cycles = s.cycles := rfl
@[simp] theorem rasterize_mem (ly : Nat) (s : State) : (rasterize ly s).mem = s.mem := rfl
@[simp] theorem rasterize_dot (ly : Nat) (s : State) : (rasterize ly s).dot = s.dot := rfl
@[simp] theorem rasterize_line (ly : Nat) (s : State) : (rasterize ly s).line = s.line := rfl
@[simp] theorem rasterize_frameReady (ly : Nat) (s : State) : (rasterize ly s).frameReady = s.frameReady := rfl
@[simp] theorem rasterize_fault (ly : Nat) (s : State) : (rasterize ly s).fault = s.fault := rfl

/-! ### `write8` -/

@[simp] theorem write8_a (addr : Word) (v : Byte) (s : State) : (write8 addr v s).a = s.a := by
  unfold write8; split <;> rfl
@[simp] theorem write8_f (addr : Word) (v : Byte) (s : State) : (write8 addr v s).f = s.f := by
  unfold write8; split <;> rfl
@[simp] theorem write8_b (addr : Word) (v : Byte) (s : State) : (write8 addr v s).b = s.b := by
  unfold write8; split <;> rfl
@[simp] theorem write8_c (addr : Word) (v : Byte) (s : State) : (write8 addr v s).c = s.c := by
  unfold write8; split <;> rfl
@[simp] theorem write8_d (addr : Word) (v : Byte) (s : State) : (write8 addr v s).d = s.d := by
  unfold write8; split <;> rfl
@[simp] theorem write8_e (addr : Word) (v : Byte) (s : State) : (write8 addr v s).e = s.e := by
  unfold write8; split <;> rfl
@[simp] theorem write8_h (addr : Word) (v : Byte) (s : State) : (write8 addr v s).h = s.h := by
  unfold write8; split <;> rfl
@[simp] theorem write8_l (addr : Word) (v : Byte) (s : State) : (write8 addr v s).l = s.l := by
  unfold write8; split <;> rfl
@[simp] theorem write8_sp (addr : Word) (v : Byte) (s : State) : (write8 addr v s).sp = s.sp := by
  unfold write8; split <;> rfl
@[simp] theorem write8_pc (addr : Word) (v : Byte) (s : State) : (write8 addr v s).pc = s.pc := by
  unfold write8; split <;> rfl
@[simp] theorem write8_ime (addr : Word) (v : Byte) (s : State) : (write8 addr v s).ime = s.ime := by
  unfold write8; split <;> rfl
@[simp] theorem write8_cycles (addr : Word) (v : Byte) (s : State) : (write8 addr v s).cycles = s.cycles := by
  unfold write8; split <;> rfl
@[simp] theorem write8_dot (addr : Word) (v : Byte) (s : State) : (write8 addr v s).dot = s.dot := by
  unfold write8; split <;> rfl
@[simp] theorem write8_line (addr : Word) (v : Byte) (s : State) : (write8 addr v s).line = s.line := by
  unfold write8; split <;> rfl
@[simp] theorem write8_frameReady (addr : Word) (v : Byte) (s : State) : (write8 addr v s).frameReady = s.frameReady := by
  unfold write8; split <;> rfl
@[simp] theorem write8_fb (addr : Word) (v : Byte) (s : State) : (write8 addr v s).fb = s.fb := by
  unfold write8; split <;> rfl
@[simp] theorem write8_fault (addr : Word) (v : Byte) (s : State) : (write8 addr v s).fault = s.fault := by
  unfold write8; split <;> rfl

/-! ### `write16` -/

@[simp] theorem write16_a (addr v : Word) (s : State) : (write16 addr v s).a = s.a := by
  simp [write16]
@[simp] theorem write16_f (addr v : Word) (s : State) : (write16 addr v s).f = s.f := by
  simp [write16]
@[simp] theorem write16_b (addr v : Word) (s : State) : (write16 addr v s).b = s.b := by
  simp [write16]
@[simp] theorem write16_c (addr v : Word) (s : State) : (write16 addr v s).c = s.c := by
  simp [write16]
@[simp] theorem write16_d (addr v : Word) (s : State) : (write16 addr v s).d = s.d := by
  simp [write16]
@[simp] theorem write16_e (addr v : Word) (s : State) : (write16 addr v s).e = s.e := by
  simp [write16]
@[simp] theorem write16_h (addr v : Word) (s : State) : (write16 addr v s).h = s.h := by
  simp [write16]
@[simp] theorem write16_l (addr v : Word) (s : State) : (write16 addr v s).l = s.l := by
  simp [write16]
@[simp] theorem write16_sp (addr v : Word) (s : State) : (write16 addr v s).sp = s.sp := by
  simp [write16]
@[simp] theorem write16_pc (addr v : Word) (s : State) : (write16 addr v s).pc = s.pc := by
  simp [write16]
@[simp] theorem write16_ime (addr v : Word) (s : State) : (write16 addr v s).ime = s.ime := by
  simp [write16]
@[simp] theorem write16_cycles (addr v : Word) (s : State) : (write16 addr v s).cycles = s.cycles := by
  simp [write16]
@[simp] theorem write16_dot (addr v : Word) (s : State) : (write16 addr v s).dot = s.dot := by
  simp [write16]
@[simp] theorem write16_line (addr v : Word) (s : State) : (write16 addr v s).line = s.line := by
  simp [write16]
@[simp] theorem write16_frameReady (addr v : Word) (s : State) : (write16 addr v s).frameReady = s.frameReady := by
  simp [write16]
@[simp] theorem write16_fb (addr v : Word) (s : State) : (write16 addr v s).fb = s.fb := by
  simp [write16]
@[simp] theorem write16_fault (addr v : Word) (s : State) : (write16 addr v s).fault = s.fault := by
  simp [write16]

/-! ### `push16` -/

@[simp] theorem push16_a (v : Word) (s : State) : (push16 v s).a = s.a := by
  simp [push16]
@[simp] theorem push16_f (v : Word) (s : State) : (push16 v s).f = s.f := by
  simp [push16]
@[simp] theorem push16_b (v : Word) (s : State) : (push16 v s).b = s.b := by
  simp [push16]
@[simp] theorem push16_c (v : Word) (s : State) : (push16 v s).c = s.c := by
  simp [push16]
@[simp] theorem push16_d (v : Word) (s : State) : (push16 v s).d = s.d := by
  simp [push16]
@[simp] theorem push16_e (v : Word) (s : State) : (push16 v s).e = s.e := by
  simp [push16]
@[simp] theorem push16_h (v : Word) (s : State) : (push16 v s).h = s.h := by
  simp [push16]
@[simp] theorem push16_l (v : Word) (s : State) : (push16 v s).l = s.l := by
  simp [push16]
@[simp] theorem push16_pc (v : Word) (s : State) : (push16 v s).pc = s.pc := by
  simp [push16]
@[simp] theorem push16_ime (v : Word) (s : State) : (push16 v s).ime = s.ime := by
  simp [push16]
@[simp] theorem push16_cycles (v : Word) (s : State) : (push16 v s).cycles = s.cycles := by
  simp [push16]
@[simp] theorem push16_dot (v : Word) (s : State) : (push16 v s).dot = s.dot := by
  simp [push16]
@[simp] theorem push16_line (v : Word) (s : State) : (push16 v s).line = s.line := by
  simp [push16]
@[simp] theorem push16_frameReady (v : Word) (s : State) : (push16 v s).frameReady = s.frameReady := by
  simp [push16]
@[simp] theorem push16_fb (v : Word) (s : State) : (push16 v s).fb = s.fb := by
  simp [push16]
@[simp] theorem push16_fault (v : Word) (s : State) : (push16 v s).fault = s.fault := by
  simp [push16]

/-! ### `setReg8` -/

@[simp] theorem setReg8_f (r : Reg8) (v : Byte) (s : State) : (setReg8 r v s).f = s.f := by
  cases r <;> rfl
@[simp] theorem setReg8_sp (r : Reg8) (v : Byte) (s : State) : (setReg8 r v s).sp = s.sp := by
  cases r <;> rfl
@[simp] theorem setReg8_pc (r : Reg8) (v : Byte) (s : State) : (setReg8 r v s).pc = s.pc := by
  cases r <;> rfl
@[simp] theorem setReg8_ime (r : Reg8) (v : Byte) (s : State) : (setReg8 r v s).ime = s.ime := by
  cases r <;> rfl
@[simp] theorem setReg8_cycles (r : Reg8) (v : Byte) (s : State) : (setReg8 r v s).cycles = s.cycles := by
  cases r <;> rfl
@[simp] theorem setReg8_mem (r : Reg8) (v : Byte) (s : State) : (setReg8 r v s).mem = s.mem := by
  cases r <;> rfl
@[simp] theorem setReg8_dot (r : Reg8) (v : Byte) (s : State) : (setReg8 r v s).dot = s.dot := by
  cases r <;> rfl
@[simp] theorem setReg8_line (r : Reg8) (v : Byte) (s : State) : (setReg8 r v s).line = s.line := by
  cases r <;> rfl
@[simp] theorem setReg8_frameReady (r : Reg8) (v : Byte) (s : State) : (setReg8 r v s).frameReady = s.frameReady := by
  cases r <;> rfl
@[simp] theorem setReg8_fb (r : Reg8) (v : Byte) (s : State) : (setReg8 r v s).fb = s.fb := by
  cases r <;> rfl
@[simp] theorem setReg8_fault (r : Reg8) (v : Byte) (s : State) : (setReg8 r v s).fault = s.fault := by
  cases r <;> rfl

/-! ### `setPair` -/

@[simp] theorem setPair_a (p : Pair) (v : Word) (s : State) : (setPair p v s).a = s.a := by
  cases p <;> rfl
@[simp] theorem setPair_f (p : Pair) (v : Word) (s : State) : (setPair p v s).f = s.f := by
  cases p <;> rfl
@[simp] theorem setPair_pc (p : Pair) (v : Word) (s : State) : (setPair p v s).pc = s.pc := by
  cases p <;> rfl
@[simp] theorem setPair_ime (p : Pair) (v : Word) (s : State) : (setPair p v s).ime = s.ime := by
  cases p <;> rfl
@[simp] theorem setPair_cycles (p : Pair) (v : Word) (s : State) : (setPair p v s).cycles = s.cycles := by
  cases p <;> rfl
@[simp] theorem setPair_mem (p : Pair) (v : Word) (s : State) : (setPair p v s).mem = s.mem := by
  cases p <;> rfl
@[simp] theorem setPair_dot (p : Pair) (v : Word) (s : State) : (setPair p v s).dot = s.dot := by
  cases p <;> rfl
@[simp] theorem setPair_line (p : Pair) (v : Word) (s : State) : (setPair p v s).line = s.line := by
  cases p <;> rfl
@[simp] theorem setPair_frameReady (p : Pair) (v : Word) (s : State) : (setPair p v s).frameReady = s.frameReady := by
  cases p <;> rfl
@[simp] theorem setPair_fb (p : Pair) (v : Word) (s : State) : (setPair p v s).fb = s.fb := by
  cases p <;> rfl
@[simp] theorem setPair_fault (p : Pair) (v : Word) (s : State) : (setPair p v s).fault = s.fault := by
  cases p <;> rfl

/-! ### `setStackPair` -/

@[simp] theorem setStackPair_sp (p : StackPair) (v : Word) (s : State) : (setStackPair p v s).sp = s.sp := by
  cases p <;> rfl
@[simp] theorem setStackPair_pc (p : StackPair) (v : Word) (s : State) : (setStackPair p v s).pc = s.pc := by
  cases p <;> rfl
@[simp] theorem setStackPair_ime (p : StackPair) (v : Word) (s : State) : (setStackPair p v s).ime = s.ime := by
  cases p <;> rfl
@[simp] theorem setStackPair_cycles (p : StackPair) (v : Word) (s : State) : (setStackPair p v s).cycles = s.cycles := by
  cases p <;> rfl
@[simp] theorem setStackPair_mem (p : StackPair) (v : Word) (s : State) : (setStackPair p v s).mem = s.mem := by
  cases p <;> rfl
@[simp] theorem setStackPair_dot (p : StackPair) (v : Word) (s : State) : (setStackPair p v s).dot = s.dot := by
  cases p <;> rfl
@[simp] theorem setStackPair_line (p : StackPair) (v : Word) (s : State) : (setStackPair p v s).line = s.line := by
  cases p <;> rfl
@[simp] theorem setStackPair_frameReady (p : StackPair) (v : Word) (s : State) : (setStackPair p v s).frameReady = s.frameReady := by
  cases p <;> rfl
@[simp] theorem setStackPair_fb (p : StackPair) (v : Word) (s : State) : (setStackPair p v s).fb = s.fb := by
  cases p <;> rfl
@[simp] theorem setStackPair_fault (p : StackPair) (v : Word) (s : State) : (setStackPair p v s).fault = s.fault := by
  cases p <;> rfl

/-! ### `setOp8` -/

@[simp] theorem setOp8_f (o : Operand8) (v : Byte) (s : State) : (setOp8 o v s).f = s.f := by
  cases o <;> simp [setOp8]
@[simp] theorem setOp8_sp (o : Operand8) (v : Byte) (s : State) : (setOp8 o v s).sp = s.sp := by
  cases o <;> simp [setOp8]
@[simp] theorem setOp8_pc (o : Operand8) (v : Byte) (s : State) : (setOp8 o v s).pc = s.pc := by
  cases o <;> simp [setOp8]
@[simp] theorem setOp8_ime (o : Operand8) (v : Byte) (s : State) : (setOp8 o v s).ime = s.ime := by
  cases o <;> simp [setOp8]
@[simp] theorem setOp8_cycles (o : Operand8) (v : Byte) (s : State) : (setOp8 o v s).cycles = s.cycles := by
  cases o <;> simp [setOp8]
@[simp] theorem setOp8_dot (o : Operand8) (v : Byte) (s : State) : (setOp8 o v s).dot = s.dot := by
  cases o <;> simp [setOp8]
@[simp] theorem setOp8_line (o : Operand8) (v : Byte) (s : State) : (setOp8 o v s).line = s.line := by
  cases o <;> simp [setOp8]
@[simp] theorem setOp8_frameReady (o : Operand8) (v : Byte) (s : State) : (setOp8 o v s).frameReady = s.frameReady := by
  cases o <;> simp [setOp8]
@[simp] theorem setOp8_fb (o : Operand8) (v : Byte) (s : State) : (setOp8 o v s).fb = s.fb := by
  cases o <;> simp [setOp8]
@[simp] theorem setOp8_fault (o : Operand8) (v : Byte) (s : State) : (setOp8 o v s).fault = s.fault := by
  cases o <;> simp [setOp8]

@[simp] theorem push16_sp (v : Word) (s : State) : (push16 v s).sp = s.sp - 2 := by simp [push16]

/-! ### Registers and reads after updates -/

@[simp] theorem getReg8_setReg8_same (r : Reg8) (v : Byte) (s : State) : getReg8 r (setReg8 r v s) = v := by
  cases r <;> rfl

theorem getReg8_setReg8_other (q r : Reg8) (v : Byte) (s : State) (h : q ≠ r) :
    getReg8 q (setReg8 r v s) = getReg8 q s := by
  cases q <;> cases r <;> first | rfl | exact absurd rfl h

theorem read8_of_mem (addr : Word) (s t : State) (h : t.mem = s.mem) : read8 addr t = read8 addr s := by
  simp only [read8, h]

end Sys2Proof.Machine
end

