-- ==== Sys2Proof/Laws/Ops.lean ====
section
/-! SUPPORT. One lemma per shared operation: what it does, in the terms of Safety.lean. -/

namespace Sys2Proof.Machine

open Sys2Proof.Safety

/-! ### Reads through updates that leave memory or registers alone -/

@[simp] theorem read8_retire (addr : Word) (len cost : Nat) (s : State) :
    read8 addr (retire len cost s) = read8 addr s := rfl

@[simp] theorem getReg8_retire (r : Reg8) (len cost : Nat) (s : State) :
    getReg8 r (retire len cost s) = getReg8 r s := by cases r <;> rfl

@[simp] theorem getPair_retire (p : Pair) (len cost : Nat) (s : State) :
    getPair p (retire len cost s) = getPair p s := by cases p <;> rfl

@[simp] theorem getStackPair_retire (p : StackPair) (len cost : Nat) (s : State) :
    getStackPair p (retire len cost s) = getStackPair p s := by cases p <;> rfl

@[simp] theorem op8_retire (o : Operand8) (len cost : Nat) (s : State) : op8 o (retire len cost s) = op8 o s := by
  cases o <;> simp [op8]

@[simp] theorem flagZ_retire (len cost : Nat) (s : State) : flagZ (retire len cost s) = flagZ s := rfl

@[simp] theorem flagN_retire (len cost : Nat) (s : State) : flagN (retire len cost s) = flagN s := rfl

@[simp] theorem flagH_retire (len cost : Nat) (s : State) : flagH (retire len cost s) = flagH s := rfl

@[simp] theorem flagC_retire (len cost : Nat) (s : State) : flagC (retire len cost s) = flagC s := rfl

@[simp] theorem getReg8_putFlags (r : Reg8) (z n h c : Option Bool) (s : State) :
    getReg8 r (putFlags z n h c s) = getReg8 r s := by cases r <;> rfl

@[simp] theorem getReg8_putAllFlags (r : Reg8) (z n h c : Bool) (s : State) :
    getReg8 r (putAllFlags z n h c s) = getReg8 r s := by cases r <;> rfl

@[simp] theorem getPair_putFlags (p : Pair) (z n h c : Option Bool) (s : State) :
    getPair p (putFlags z n h c s) = getPair p s := by cases p <;> rfl

@[simp] theorem read8_putFlags (addr : Word) (z n h c : Option Bool) (s : State) :
    read8 addr (putFlags z n h c s) = read8 addr s := rfl

@[simp] theorem read8_putAllFlags (addr : Word) (z n h c : Bool) (s : State) :
    read8 addr (putAllFlags z n h c s) = read8 addr s := rfl

@[simp] theorem read8_setReg8 (addr : Word) (r : Reg8) (v : Byte) (s : State) :
    read8 addr (setReg8 r v s) = read8 addr s := read8_of_mem _ _ _ (by simp)

@[simp] theorem read8_setPair (addr : Word) (p : Pair) (v : Word) (s : State) :
    read8 addr (setPair p v s) = read8 addr s := read8_of_mem _ _ _ (by simp)

@[simp] theorem read8_setStackPair (addr : Word) (p : StackPair) (v : Word) (s : State) :
    read8 addr (setStackPair p v s) = read8 addr s := read8_of_mem _ _ _ (by simp)

@[simp] theorem getReg8_write8 (r : Reg8) (addr : Word) (v : Byte) (s : State) :
    getReg8 r (write8 addr v s) = getReg8 r s := by cases r <;> simp [getReg8]

@[simp] theorem getReg8_write16 (r : Reg8) (addr v : Word) (s : State) :
    getReg8 r (write16 addr v s) = getReg8 r s := by cases r <;> simp [getReg8]

@[simp] theorem getReg8_push16 (r : Reg8) (v : Word) (s : State) :
    getReg8 r (push16 v s) = getReg8 r s := by cases r <;> simp [getReg8]

@[simp] theorem getPair_write8 (p : Pair) (addr : Word) (v : Byte) (s : State) :
    getPair p (write8 addr v s) = getPair p s := by cases p <;> simp [getPair]

/-! ### Pairs -/

@[simp] theorem getPair_setPair_same (p : Pair) (v : Word) (s : State) : getPair p (setPair p v s) = v := by
  cases p <;> simp [getPair, setPair, wordOf_bytes]

theorem getReg8_setPair_other (r : Reg8) (p : Pair) (v : Word) (s : State) (h : r ∉ halves p) :
    getReg8 r (setPair p v s) = getReg8 r s := by
  cases p <;> cases r <;> first | rfl | exact absurd (by simp [halves]) h

theorem getReg8_setStackPair_other (r : Reg8) (p : StackPair) (v : Word) (s : State) (h : r ∉ stackHalves p) :
    getReg8 r (setStackPair p v s) = getReg8 r s := by
  cases p <;> cases r <;> first | rfl | exact absurd (by simp [stackHalves]) h

theorem setPair_sp_of_ne (p : Pair) (v : Word) (s : State) (h : p ≠ .sp) : (setPair p v s).sp = s.sp := by
  cases p <;> first | rfl | exact absurd rfl h

theorem setStackPair_f_of_ne (p : StackPair) (v : Word) (s : State) (h : p ≠ .af) : (setStackPair p v s).f = s.f := by
  cases p <;> first | rfl | exact absurd rfl h

/-- The bytes of a stack pair after it is written; F loses its low nibble. -/
theorem getStackPair_setStackPair (p : StackPair) (v : Word) (s : State) :
    getStackPair p (setStackPair p v s) =
      wordOf (hiByte v) (if p = .af then loByte v &&& 0xF0 else loByte v) := by
  cases p <;> rfl

/-! ### The flag byte -/

/-- The flags of a byte built from them. -/
theorem flagsByte_bits (z n h c : Bool) :
    (flagsByte z n h c).getLsbD 7 = z ∧ (flagsByte z n h c).getLsbD 6 = n ∧ (flagsByte z n h c).getLsbD 5 = h ∧
      (flagsByte z n h c).getLsbD 4 = c ∧ flagsByte z n h c &&& 0x0F = 0 := by
  cases z <;> cases n <;> cases h <;> cases c <;> decide

theorem putAllFlags_reads (z n h c : Bool) (s : State) : FlagsRead z n h c 0 (putAllFlags z n h c s) := by
  obtain ⟨hz, hn, hh, hc, hl⟩ := flagsByte_bits z n h c
  exact ⟨hz, hn, hh, hc, hl⟩

theorem putFlags_reads (z n h c : Option Bool) (s : State) :
    FlagsRead (z.getD (flagZ s)) (n.getD (flagN s)) (h.getD (flagH s)) (c.getD (flagC s)) (s.f &&& 0x0F)
      (putFlags z n h c s) := by
  have key : ∀ (z n h c : Bool) (f : Byte),
      (flagsByte z n h c ||| (f &&& 0x0F)).getLsbD 7 = z ∧ (flagsByte z n h c ||| (f &&& 0x0F)).getLsbD 6 = n ∧
      (flagsByte z n h c ||| (f &&& 0x0F)).getLsbD 5 = h ∧ (flagsByte z n h c ||| (f &&& 0x0F)).getLsbD 4 = c ∧
      (flagsByte z n h c ||| (f &&& 0x0F)) &&& 0x0F = f &&& 0x0F := by
    decide +kernel
  obtain ⟨hz, hn, hh, hc, hl⟩ := key (z.getD (flagZ s)) (n.getD (flagN s)) (h.getD (flagH s)) (c.getD (flagC s)) s.f
  exact ⟨hz, hn, hh, hc, hl⟩

end Sys2Proof.Machine
end

