-- ==== Sys2Proof/Laws/Display.lean ====
section
/-! SUPPORT. What a display tick can do, said once: `tick_display` for the state outside the display, `tick_counters` for
the counters, and the same for any number of ticks. -/

namespace Sys2Proof.Machine

open Sys2Proof.Safety

/-- All that display ticks leave unchanged: the CPU, and every byte but LY. -/
structure DisplayOnly (s t : State) : Prop where
  regs   : ∀ r, getReg8 r t = getReg8 r s
  f      : t.f = s.f
  sp     : t.sp = s.sp
  pc     : t.pc = s.pc
  ime    : t.ime = s.ime
  cycles : t.cycles = s.cycles
  fault  : t.fault = s.fault
  memory : ∀ a, a ≠ 0xFF44 → read8 a t = read8 a s
  wf     : s.mem.wf = true → t.mem.wf = true
  rows   : t.fb.length = s.fb.length
  width  : (∀ row ∈ s.fb, row.length = 160) → ∀ row ∈ t.fb, row.length = 160

theorem displayOnly_refl (s : State) : DisplayOnly s s :=
  ⟨fun _ => rfl, rfl, rfl, rfl, rfl, rfl, rfl, fun _ _ => rfl, id, rfl, id⟩

theorem DisplayOnly.trans {s t u : State} (h : DisplayOnly s t) (k : DisplayOnly t u) : DisplayOnly s u where
  regs := fun r => (k.regs r).trans (h.regs r)
  f := k.f.trans h.f
  sp := k.sp.trans h.sp
  pc := k.pc.trans h.pc
  ime := k.ime.trans h.ime
  cycles := k.cycles.trans h.cycles
  fault := k.fault.trans h.fault
  memory := fun a ha => (k.memory a ha).trans (h.memory a ha)
  wf := fun w => k.wf (h.wf w)
  rows := k.rows.trans h.rows
  width := fun w => k.width (h.width w)

theorem displayOnly_counters (s : State) (dot line : Nat) (ready : Bool) :
    DisplayOnly s { s with dot := dot, line := line, frameReady := ready } :=
  ⟨fun r => by cases r <;> rfl, rfl, rfl, rfl, rfl, rfl, rfl, fun _ _ => rfl, id, rfl, id⟩

theorem displayOnly_writeLy (s : State) (v : Byte) : DisplayOnly s (write8 lyAddr v s) := by
  refine ⟨fun r => ?_, ?_, ?_, ?_, ?_, ?_, ?_, fun a ha => read8_write8_other _ _ _ _ ha, write8_wf _ _ _, ?_, ?_⟩
  all_goals simp

theorem displayOnly_rasterize (ly : Nat) (s : State) : DisplayOnly s (rasterize ly s) := by
  refine ⟨fun r => by cases r <;> rfl, rfl, rfl, rfl, rfl, rfl, rfl, fun _ _ => rfl, id, ?_, ?_⟩
  · simp [rasterize]
  · intro h row hr
    rcases List.mem_or_eq_of_mem_set hr with hm | rfl
    · exact h row hm
    · simp [Config.screenWidth]

theorem enterLine_display (s : State) : DisplayOnly s (enterLine s) := by
  unfold enterLine
  split
  · exact (displayOnly_writeLy _ _).trans (displayOnly_rasterize _ _)
  · split
    · exact (displayOnly_writeLy _ _).trans (displayOnly_counters _ _ _ _)
    · exact displayOnly_refl s

theorem tick_display (s : State) : DisplayOnly s (tick s) := by
  unfold tick
  split
  · split <;> exact (displayOnly_counters _ _ _ _).trans (enterLine_display _)
  · exact displayOnly_counters _ _ _ _

theorem ticks_display (n : Nat) (s : State) : DisplayOnly s (ticks n s) := by
  induction n generalizing s with
  | zero => exact displayOnly_refl s
  | succ n ih => exact (tick_display s).trans (ih _)

theorem ticks_add (m n : Nat) (s : State) : ticks (m + n) s = ticks n (ticks m s) := by
  induction m generalizing s with
  | zero => simp [ticks]
  | succ m ih => rw [Nat.succ_add]; exact ih (tick s)

theorem ticks_succ_last (n : Nat) (s : State) : ticks (n + 1) s = tick (ticks n s) := ticks_add n 1 s

@[simp] theorem enterLine_dot (s : State) : (enterLine s).dot = s.dot := by
  unfold enterLine; split <;> (try split) <;> simp

@[simp] theorem enterLine_line (s : State) : (enterLine s).line = s.line := by
  unfold enterLine; split <;> (try split) <;> simp

theorem enterLine_frameReady (s : State) :
    (enterLine s).frameReady = (decide (s.line = 144) || s.frameReady) := by
  unfold enterLine Config.visibleLines
  split
  · next h => have : s.line ≠ 144 := by omega
              simp [this]
  · split <;> simp [*]

/-- The counters after a tick: the dot moves on, and the 456th moves the line on. -/
theorem tick_counters (s : State) :
    (tick s).dot = (if s.dot = 455 then 0 else s.dot + 1) ∧
    (tick s).line = (if s.dot = 455 then (if s.line = 153 then 0 else s.line + 1) else s.line) ∧
    (tick s).frameReady = (if s.dot = 455 then
      (decide (s.line = 143) || (s.frameReady && decide (s.line ≠ 153))) else s.frameReady) := by
  unfold tick dotsPerLine linesPerFrame
  by_cases hd : s.dot = 455
  · by_cases hl : s.line = 153
    · simp [hd, hl, enterLine_frameReady]
    · simp [hd, hl, enterLine_frameReady]
  · simp [hd]

end Sys2Proof.Machine
end

