-- ==== Sys2Proof/Laws/Frames.lean ====
section
/-! SUPPORT. What the shared operations deliver and what they leave unchanged, in the terms of Safety.lean: the lemmas a
proof about an instruction cites instead of unfolding its operation. -/

namespace Sys2Proof.Machine

open Sys2Proof.Safety

/-- Nothing changes. -/
theorem deviceKept_refl (s : State) : DeviceKept s s := ⟨rfl, rfl, rfl, rfl, rfl⟩

/-- Retiring touches no register and no memory. -/
theorem frame_retire (l c) (s : State) : RegisterFrame [] s (retire l c s) :=
  ⟨fun q _ => by simp, fun a => by simp, rfl, rfl, rfl, rfl, rfl, rfl⟩

/-- Writing flags keeps a register frame. -/
theorem frame_putFlags (x : List Reg8) (z n h c) (s t : State) (hf : RegisterFrame x s t) :
    RegisterFrame x s (putFlags z n h c t) := by
  refine ⟨?_, ?_, ?_, ?_⟩
  · intro q hq; simp [hf.1 q hq]
  · intro a; simp [hf.2 a]
  · simp [hf.3]
  · constructor <;> simp [hf.4.1, hf.4.2, hf.4.3, hf.4.4, hf.4.5]

/-- Writing a pair changes its halves alone. -/
theorem frame_setPair (p : Pair) (v : Word) (l c) (s : State) : RegisterFrame (halves p) s (setPair p v (retire l c s)) := by
  refine ⟨?_, ?_, ?_, ?_⟩
  · intro q hq; rw [getReg8_setPair_other _ _ _ _ hq]; simp
  · intro a; simp
  · simp
  · constructor <;> simp

/-- Writing A changes A alone. -/
theorem setReg8_a_frame (v : Byte) (l c) (s : State) : RegisterFrame [.a] s (setReg8 .a v (retire l c s)) := by
  refine ⟨?_, ?_, ?_, ?_⟩
  · intro q hq; rw [getReg8_setReg8_other _ _ _ _ (by simpa using hq)]; simp
  · intro a; simp
  · simp
  · constructor <;> simp

/-- A guarded byte store. -/
theorem storesByte_write8 (addr : Word) (v : Byte) (s : State) (hm : s.mem.wf = true) :
    StoresByte addr v s (write8 addr v s) :=
  ⟨read8_write8_same _ _ _ hm, fun _ h => read8_write8_other _ _ _ _ h⟩

/-- A byte store after retiring, seen from before. -/
theorem storesByte_retire (addr : Word) (v : Byte) (s t : State) (l c) (h : StoresByte addr v (retire l c s) t) :
    StoresByte addr v s t :=
  ⟨h.1, h.2⟩

/-- A guarded word store. -/
theorem storesWord_write16 (addr v : Word) (s : State) (hm : s.mem.wf = true) :
    StoresWord addr v s (write16 addr v s) :=
  ⟨read8_write16_low _ _ _ hm, read8_write16_high _ _ _ hm, fun _ h h' => read8_write16_other _ _ _ _ h h'⟩

/-- A word store seen from a state with the same memory. -/
theorem storesWord_from (addr v : Word) (s s' t : State) (h : StoresWord addr v s' t) (hm : s'.mem = s.mem) :
    StoresWord addr v s t := by
  obtain ⟨h1, h2, h3⟩ := h
  refine ⟨?_, ?_, fun a ha hb => ?_⟩
  · rw [h1, read8_of_mem _ _ _ hm]
  · rw [h2, read8_of_mem _ _ _ hm]
  · rw [h3 a ha hb, read8_of_mem _ _ _ hm]

/-- Writing an 8-bit operand delivers the byte there and nowhere else. -/
theorem setOp8_delivers (o : Operand8) (v : Byte) (s : State) (hm : s.mem.wf = true) :
    Delivers o v s (setOp8 o v s) := by
  cases o with
  | reg r =>
    refine ⟨by simp [setOp8], ⟨?_, ?_, ?_, ?_⟩⟩
    · intro q hq
      simp at hq
      simp [setOp8, getReg8_setReg8_other _ _ _ _ hq]
    · intro a; simp [setOp8]
    · simp
    · constructor <;> simp
  | hlMem =>
    refine ⟨storesByte_write8 _ _ _ hm, ⟨?_, ?_, ?_⟩⟩
    · intro q _; simp [setOp8]
    · simp
    · constructor <;> simp

/-- Delivering after retiring and before updates that touch neither registers nor memory. -/
theorem delivers_around (o : Operand8) (v : Byte) (s t u : State) (l c : Nat) (h : Delivers o v (retire l c s) t)
    (hr : ∀ r, getReg8 r u = getReg8 r t) (hm : u.mem = t.mem) (hi : u.ime = t.ime) (hd : DeviceKept t u) :
    Delivers o v s u := by
  cases o with
  | reg r =>
    obtain ⟨h1, h2, h3, h4, h5⟩ := h
    refine ⟨by rw [hr, h1], ⟨?_, ?_, ?_, ?_⟩⟩
    · intro q hq; rw [hr, h2 q hq]; simp
    · intro a; rw [read8_of_mem _ _ _ hm, h3 a]; simp
    · rw [hi, h4]; rfl
    · exact ⟨hd.1.trans h5.1, hd.2.trans h5.2, hd.3.trans h5.3, hd.4.trans h5.4, hd.5.trans h5.5⟩
  | hlMem =>
    obtain ⟨⟨h1, h1'⟩, h2, h4, h5⟩ := h
    refine ⟨⟨?_, ?_⟩, ?_, ?_, ?_⟩
    · rw [read8_of_mem _ _ _ hm]; simpa using h1
    · intro a ha; rw [read8_of_mem _ _ _ hm]; simpa using h1' a (by simpa using ha)
    · intro q hq; rw [hr, h2 q hq]; simp
    · rw [hi, h4]; rfl
    · exact ⟨hd.1.trans h5.1, hd.2.trans h5.2, hd.3.trans h5.3, hd.4.trans h5.4, hd.5.trans h5.5⟩

/-- The page address as a number. -/
theorem ioAddr_eq (n : Byte) : ioAddr n = BitVec.ofNat 16 (0xFF00 + n.toNat) := by
  revert n; decide +kernel

/-- A load of A. -/
theorem loadA_frame (a : Word) (l c : Nat) (s : State) :
    (loadA a (retire l c s)).a = read8 a s ∧ RegisterFrame [.a] s (loadA a (retire l c s)) ∧
   FlagsAndStackKept s (loadA a (retire l c s)) ∧ Retires l c s (loadA a (retire l c s)) := by
  refine ⟨rfl, ⟨?_, ?_, ?_, ?_⟩, ⟨?_, ?_⟩, ⟨?_, ?_⟩⟩ <;> simp [loadA, MemoryKept]
  · intro q hq
    simp at hq
    simp [getReg8_setReg8_other _ _ _ _ hq]
  · exact ⟨by simp, by simp, by simp, by simp, by simp⟩

/-- A store of A. -/
theorem storeA_frame (a : Word) (l c : Nat) (s : State) (hm : s.mem.wf = true) :
    StoresByte a s.a s (storeA a (retire l c s)) ∧ StoreFrame [] s (storeA a (retire l c s)) ∧
   FlagsAndStackKept s (storeA a (retire l c s)) ∧ Retires l c s (storeA a (retire l c s)) := by
  refine ⟨storesByte_write8 _ _ _ hm |> storesByte_retire _ _ _ _ l c, ⟨?_, ?_, ?_⟩, ⟨?_, ?_⟩, ⟨?_, ?_⟩⟩ <;>
    simp [storeA, RegsKept]
  · exact ⟨by simp, by simp, by simp, by simp, by simp⟩

/-- An ALU operation changes A alone, and CP nothing. -/
theorem aluApply_frame (op : AluOp) (b : Byte) (l c : Nat) (s : State) :
    RegisterFrame (if op = .cp then [] else [.a]) s (aluApply op b (retire l c s)) ∧
      (aluApply op b (retire l c s)).sp = s.sp ∧ Retires l c s (aluApply op b (retire l c s)) := by
  refine ⟨⟨?_, fun _ => rfl, rfl, ⟨rfl, rfl, rfl, rfl, rfl⟩⟩, rfl, rfl, rfl⟩
  intro q hq
  cases q <;> try rfl
  by_cases h : op = .cp
  · subst h; rfl
  · simp [h] at hq

/-- An ALU operation writes all four flags. -/
theorem aluApply_reads (op : AluOp) (b : Byte) (s : State) :
    FlagsRead (alu op s.a b (flagC s)).z (alu op s.a b (flagC s)).n (alu op s.a b (flagC s)).h
      (alu op s.a b (flagC s)).c 0 (aluApply op b s) := by
  obtain ⟨hz, hn, hh, hc, hl⟩ := flagsByte_bits (alu op s.a b (flagC s)).z (alu op s.a b (flagC s)).n
    (alu op s.a b (flagC s)).h (alu op s.a b (flagC s)).c
  exact ⟨hz, hn, hh, hc, hl⟩

end Sys2Proof.Machine
end

