-- ==== Sys2Proof/Laws/Effect.lean ====
section
/-! SUPPORT. Everything an instruction can do to the state as a whole, said once: `exec_effect`. The invariants and the
rules about every instruction follow from it without unfolding a meaning. -/

namespace Sys2Proof.Machine

open Sys2Proof.Safety

/-- What the shared operations keep, whatever registers and bytes they write. -/
structure Quiet (s t : State) : Prop where
  device : DeviceKept s t
  cycles : t.cycles = s.cycles
  wf     : s.mem.wf = true → t.mem.wf = true
  rom    : ∀ a, a.toNat < 0x8000 → read8 a t = read8 a s
  nibble : s.f &&& 0x0F = 0 → t.f &&& 0x0F = 0

theorem Quiet.trans {s t u : State} (h : Quiet s t) (k : Quiet t u) : Quiet s u where
  device := ⟨k.device.dot.trans h.device.dot, k.device.line.trans h.device.line,
    k.device.frameReady.trans h.device.frameReady, k.device.fb.trans h.device.fb, k.device.fault.trans h.device.fault⟩
  cycles := k.cycles.trans h.cycles
  wf := fun w => k.wf (h.wf w)
  rom := fun a ha => (k.rom a ha).trans (h.rom a ha)
  nibble := fun n => k.nibble (h.nibble n)

theorem quiet_of_same {s t : State} (dot : t.dot = s.dot) (line : t.line = s.line)
    (ready : t.frameReady = s.frameReady) (fb : t.fb = s.fb) (fault : t.fault = s.fault) (cycles : t.cycles = s.cycles)
    (mem : t.mem = s.mem) (f : t.f = s.f) : Quiet s t :=
  ⟨⟨dot, line, ready, fb, fault⟩, cycles, fun w => mem ▸ w, fun a _ => read8_of_mem a s t mem, fun n => f ▸ n⟩

theorem quiet_refl (s : State) : Quiet s s := quiet_of_same rfl rfl rfl rfl rfl rfl rfl rfl

theorem quiet_setReg8 (r : Reg8) (v : Byte) (s : State) : Quiet s (setReg8 r v s) := by
  apply quiet_of_same <;> simp

theorem quiet_setPair (p : Pair) (v : Word) (s : State) : Quiet s (setPair p v s) := by
  apply quiet_of_same <;> simp

theorem quiet_popped (s : State) : Quiet s (popped s) := quiet_of_same rfl rfl rfl rfl rfl rfl rfl rfl

theorem quiet_putFlags (z n h c : Option Bool) (s : State) : Quiet s (putFlags z n h c s) where
  device := ⟨rfl, rfl, rfl, rfl, rfl⟩
  cycles := rfl
  wf := id
  rom := fun _ _ => rfl
  nibble := fun k => (putFlags_reads z n h c s).low.trans k

theorem quiet_putAllFlags (z n h c : Bool) (s : State) : Quiet s (putAllFlags z n h c s) where
  device := ⟨rfl, rfl, rfl, rfl, rfl⟩
  cycles := rfl
  wf := id
  rom := fun _ _ => rfl
  nibble := fun _ => (putAllFlags_reads z n h c s).low

theorem quiet_write8 (addr : Word) (v : Byte) (s : State) : Quiet s (write8 addr v s) where
  device := by constructor <;> simp
  cycles := by simp
  wf := write8_wf addr v s
  rom := fun a ha => read8_write8_rom addr a v s ha
  nibble := by simp

theorem quiet_write16 (addr v : Word) (s : State) : Quiet s (write16 addr v s) :=
  (quiet_write8 _ _ _).trans (quiet_write8 _ _ _)

theorem quiet_push16 (v : Word) (s : State) : Quiet s (push16 v s) :=
  (quiet_setPair .sp (s.sp - 2) s).trans (quiet_write16 _ _ _)

theorem quiet_callTo (t : Word) (s : State) : Quiet s (callTo t s) :=
  (quiet_push16 _ _).trans (quiet_of_same rfl rfl rfl rfl rfl rfl rfl rfl)

theorem quiet_setOp8 (o : Operand8) (v : Byte) (s : State) : Quiet s (setOp8 o v s) := by
  cases o with
  | reg r => exact quiet_setReg8 r v s
  | hlMem => exact quiet_write8 _ v s

theorem quiet_setStackPair (p : StackPair) (v : Word) (s : State) : Quiet s (setStackPair p v s) where
  device := by constructor <;> simp
  cycles := by simp
  wf := by simp
  rom := by simp
  nibble := by
    cases p <;> try exact id
    intro _
    show loByte v &&& 0xF0 &&& 0x0F = 0
    rw [BitVec.and_assoc]
    exact BitVec.and_zero

theorem quiet_rotateOp (op : RotOp) (o : Operand8) (s : State) : Quiet s (rotateOp op o s) :=
  (quiet_setOp8 _ _ _).trans (quiet_putAllFlags _ _ _ _ _)

theorem quiet_aluApply (op : AluOp) (b : Byte) (s : State) : Quiet s (aluApply op b s) :=
  (quiet_setReg8 .a (if op = .cp then s.a else (alu op s.a b (flagC s)).res) s).trans
    (quiet_putAllFlags (alu op s.a b (flagC s)).z (alu op s.a b (flagC s)).n (alu op s.a b (flagC s)).h
      (alu op s.a b (flagC s)).c _)

theorem quiet_load8 (d q : Operand8) (s : State) : Quiet s (load8 d q s) := quiet_setOp8 _ _ _

theorem quiet_loadImm8 (o : Operand8) (v : Byte) (s : State) : Quiet s (loadImm8 o v s) := quiet_setOp8 _ _ _

theorem quiet_loadA (a : Word) (s : State) : Quiet s (loadA a s) := quiet_setReg8 .a _ _

theorem quiet_storeA (a : Word) (s : State) : Quiet s (storeA a s) := quiet_write8 _ _ _

theorem quiet_aluOp (op : AluOp) (o : Operand8) (s : State) : Quiet s (aluOp op o s) := quiet_aluApply _ _ _

theorem quiet_incOp (o : Operand8) (s : State) : Quiet s (incOp o s) :=
  (quiet_setOp8 _ _ _).trans (quiet_putFlags _ _ _ _ _)

theorem quiet_decOp (o : Operand8) (s : State) : Quiet s (decOp o s) :=
  (quiet_setOp8 _ _ _).trans (quiet_putFlags _ _ _ _ _)

theorem quiet_decimalAdjust (s : State) : Quiet s (decimalAdjust s) :=
  (quiet_setReg8 _ _ _).trans (quiet_putFlags _ _ _ _ _)

theorem quiet_complementA (s : State) : Quiet s (complementA s) :=
  (quiet_setReg8 _ _ _).trans (quiet_putFlags _ _ _ _ _)

theorem quiet_setCarry (s : State) : Quiet s (setCarry s) := quiet_putFlags _ _ _ _ _

theorem quiet_complementCarry (s : State) : Quiet s (complementCarry s) := quiet_putFlags _ _ _ _ _

theorem quiet_rotateA (op : RotOp) (s : State) : Quiet s (rotateA op s) :=
  (quiet_setReg8 _ _ _).trans (quiet_putFlags _ _ _ _ _)

theorem quiet_testBit (b : BitVec 3) (o : Operand8) (s : State) : Quiet s (testBit b o s) := quiet_putFlags _ _ _ _ _

theorem quiet_clearBit (b : BitVec 3) (o : Operand8) (s : State) : Quiet s (clearBit b o s) := quiet_setOp8 _ _ _

theorem quiet_setBit (b : BitVec 3) (o : Operand8) (s : State) : Quiet s (setBit b o s) := quiet_setOp8 _ _ _

theorem quiet_incPair (p : Pair) (s : State) : Quiet s (incPair p s) := quiet_setPair _ _ _

theorem quiet_decPair (p : Pair) (s : State) : Quiet s (decPair p s) := quiet_setPair _ _ _

theorem quiet_addHLPair (p : Pair) (s : State) : Quiet s (addHLPair p s) :=
  (quiet_setPair _ _ _).trans (quiet_putFlags _ _ _ _ _)

theorem quiet_addSPOffset (e : Byte) (s : State) : Quiet s (addSPOffset e s) :=
  (quiet_setPair _ _ _).trans (quiet_putFlags _ _ _ _ _)

theorem quiet_loadHLSPOffset (e : Byte) (s : State) : Quiet s (loadHLSPOffset e s) :=
  (quiet_setPair _ _ _).trans (quiet_putFlags _ _ _ _ _)

theorem quiet_pushPair (p : StackPair) (s : State) : Quiet s (pushPair p s) := quiet_push16 _ _

theorem quiet_popPair (p : StackPair) (s : State) : Quiet s (popPair p s) :=
  (quiet_popped _).trans (quiet_setStackPair _ _ _)

theorem quiet_setIme (v : Bool) (s : State) : Quiet s (setIme v s) := quiet_of_same rfl rfl rfl rfl rfl rfl rfl rfl

theorem quiet_jumpTo (t : Word) (s : State) : Quiet s (jumpTo t s) := quiet_of_same rfl rfl rfl rfl rfl rfl rfl rfl

theorem quiet_jumpRelative (e : Byte) (s : State) : Quiet s (jumpRelative e s) :=
  quiet_of_same rfl rfl rfl rfl rfl rfl rfl rfl

theorem quiet_returnPop (s : State) : Quiet s (returnPop s) := quiet_of_same rfl rfl rfl rfl rfl rfl rfl rfl

theorem quiet_returnInterrupt (s : State) : Quiet s (returnInterrupt s) :=
  quiet_of_same rfl rfl rfl rfl rfl rfl rfl rfl

/-- All that an instruction can do: record an UnimplementedOpcode, or move PC, add a cost of 4 to 24 and write registers
and guarded bytes. -/
inductive Effect (s : State) : State → Prop where
  | raised (bytes : List Byte) : Effect s (raiseUnimplemented bytes s)
  | ran (len cost : Nat) (t : State) (lo : 4 ≤ cost) (hi : cost ≤ 24) (q : Quiet (retire len cost s) t) : Effect s t

/-- An instruction that acts on a condition. -/
theorem effect_cond (b : Bool) (l1 c1 l2 c2 : Nat) (s t : State) (h1 : 4 ≤ c1 ∧ c1 ≤ 24) (h2 : 4 ≤ c2 ∧ c2 ≤ 24)
    (q : Quiet (retire l1 c1 s) t) :
    ∃ u, (if b = true then Host.Outcome.next t else .next (retire l2 c2 s) : Result) = .next u ∧ Effect s u := by
  cases b
  · exact ⟨_, rfl, .ran _ _ _ h2.1 h2.2 (quiet_refl _)⟩
  · exact ⟨_, rfl, .ran _ _ _ h1.1 h1.2 q⟩

/-- Every instruction answers a next state, and that is all it does. -/
theorem exec_effect (i : Instr) (s : State) : ∃ t, exec i s = .next t ∧ Effect s t := by
  cases i with
  | nop =>
    exact ⟨_, rfl, .ran _ _ _ (by decide) (by decide) (quiet_refl _)⟩
  | ldBCD16 _ | ldDED16 _ | ldHLD16 _ | ldSPD16 _ | ldSPHL =>
    exact ⟨_, rfl, .ran _ _ _ (by decide) (by decide) (quiet_setPair _ _ _)⟩
  | ldIndBCA | ldIndDEA | ldhIndA8A _ | ldIndCA | ldIndA16A _ =>
    exact ⟨_, rfl, .ran _ _ _ (by decide) (by decide) (quiet_storeA _ _)⟩
  | incBC | incDE | incHL | incSP =>
    exact ⟨_, rfl, .ran _ _ _ (by decide) (by decide) (quiet_incPair _ _)⟩
  | incB | incC | incD | incE | incH | incL | incIndHL | incA =>
    exact ⟨_, rfl, .ran _ _ _ (by decide) (by decide) (quiet_incOp _ _)⟩
  | decB | decC | decD | decE | decH | decL | decIndHL | decA =>
    exact ⟨_, rfl, .ran _ _ _ (by decide) (by decide) (quiet_decOp _ _)⟩
  | ldBD8 _ | ldCD8 _ | ldDD8 _ | ldED8 _ | ldHD8 _ | ldLD8 _ | ldIndHLD8 _ | ldAD8 _ =>
    exact ⟨_, rfl, .ran _ _ _ (by decide) (by decide) (quiet_loadImm8 _ _ _)⟩
  | rlca | rrca | rla | rra =>
    exact ⟨_, rfl, .ran _ _ _ (by decide) (by decide) (quiet_rotateA _ _)⟩
  | ldIndA16SP _ =>
    exact ⟨_, rfl, .ran _ _ _ (by decide) (by decide) (quiet_write16 _ _ _)⟩
  | addHLBC | addHLDE | addHLHL | addHLSP =>
    exact ⟨_, rfl, .ran _ _ _ (by decide) (by decide) (quiet_addHLPair _ _)⟩
  | ldAIndBC | ldAIndDE | ldhAIndA8 _ | ldAIndC | ldAIndA16 _ =>
    exact ⟨_, rfl, .ran _ _ _ (by decide) (by decide) (quiet_loadA _ _)⟩
  | decBC | decDE | decHL | decSP =>
    exact ⟨_, rfl, .ran _ _ _ (by decide) (by decide) (quiet_decPair _ _)⟩
  | stop | halt | prefixCb _ | undefinedD3 | undefinedDB | undefinedDD | undefinedE3 | undefinedE4 | undefinedEB
  | undefinedEC | undefinedED | undefinedF4 | undefinedFC | undefinedFD =>
    exact ⟨_, rfl, .raised _⟩
  | jrE8 _ =>
    exact ⟨_, rfl, .ran _ _ _ (by decide) (by decide) (quiet_jumpRelative _ _)⟩
  | jrNZE8 _ | jrZE8 _ | jrNCE8 _ | jrCE8 _ =>
    exact effect_cond _ _ _ _ _ _ _ (by decide) (by decide) (quiet_jumpRelative _ _)
  | ldIndHLIncA =>
    exact ⟨_, rfl, .ran _ _ _ (by decide) (by decide) ((quiet_storeA _ _).trans (quiet_incPair _ _))⟩
  | daa =>
    exact ⟨_, rfl, .ran _ _ _ (by decide) (by decide) (quiet_decimalAdjust _)⟩
  | ldAIndHLInc =>
    exact ⟨_, rfl, .ran _ _ _ (by decide) (by decide) ((quiet_loadA _ _).trans (quiet_incPair _ _))⟩
  | cpl =>
    exact ⟨_, rfl, .ran _ _ _ (by decide) (by decide) (quiet_complementA _)⟩
  | ldIndHLDecA =>
    exact ⟨_, rfl, .ran _ _ _ (by decide) (by decide) ((quiet_storeA _ _).trans (quiet_decPair _ _))⟩
  | scf =>
    exact ⟨_, rfl, .ran _ _ _ (by decide) (by decide) (quiet_setCarry _)⟩
  | ldAIndHLDec =>
    exact ⟨_, rfl, .ran _ _ _ (by decide) (by decide) ((quiet_loadA _ _).trans (quiet_decPair _ _))⟩
  | ccf =>
    exact ⟨_, rfl, .ran _ _ _ (by decide) (by decide) (quiet_complementCarry _)⟩
  | ldBB | ldBC | ldBD | ldBE | ldBH | ldBL | ldBIndHL | ldBA | ldCB | ldCC | ldCD | ldCE | ldCH | ldCL | ldCIndHL
  | ldCA | ldDB | ldDC | ldDD | ldDE | ldDH | ldDL | ldDIndHL | ldDA | ldEB | ldEC | ldED | ldEE | ldEH | ldEL
  | ldEIndHL | ldEA | ldHB | ldHC | ldHD | ldHE | ldHH | ldHL | ldHIndHL | ldHA | ldLB | ldLC | ldLD | ldLE | ldLH
  | ldLL | ldLIndHL | ldLA | ldIndHLB | ldIndHLC | ldIndHLD | ldIndHLE | ldIndHLH | ldIndHLL | ldIndHLA | ldAB
  | ldAC | ldAD | ldAE | ldAH | ldAL | ldAIndHL | ldAA =>
    exact ⟨_, rfl, .ran _ _ _ (by decide) (by decide) (quiet_load8 _ _ _)⟩
  | addAB | addAC | addAD | addAE | addAH | addAL | addAIndHL | addAA | adcAB | adcAC | adcAD | adcAE | adcAH
  | adcAL | adcAIndHL | adcAA | subB | subC | subD | subE | subH | subL | subIndHL | subA | sbcAB | sbcAC | sbcAD
  | sbcAE | sbcAH | sbcAL | sbcAIndHL | sbcAA | andB | andC | andD | andE | andH | andL | andIndHL | andA | xorB
  | xorC | xorD | xorE | xorH | xorL | xorIndHL | xorA | orB | orC | orD | orE | orH | orL | orIndHL | orA | cpB
  | cpC | cpD | cpE | cpH | cpL | cpIndHL | cpA =>
    exact ⟨_, rfl, .ran _ _ _ (by decide) (by decide) (quiet_aluOp _ _ _)⟩
  | retNZ | retZ | retNC | retC =>
    exact effect_cond _ _ _ _ _ _ _ (by decide) (by decide) (quiet_returnPop _)
  | popBC | popDE | popHL | popAF =>
    exact ⟨_, rfl, .ran _ _ _ (by decide) (by decide) (quiet_popPair _ _)⟩
  | jpNZA16 _ | jpZA16 _ | jpNCA16 _ | jpCA16 _ =>
    exact effect_cond _ _ _ _ _ _ _ (by decide) (by decide) (quiet_jumpTo _ _)
  | jpA16 _ | jpHL =>
    exact ⟨_, rfl, .ran _ _ _ (by decide) (by decide) (quiet_jumpTo _ _)⟩
  | callNZA16 _ | callZA16 _ | callNCA16 _ | callCA16 _ =>
    exact effect_cond _ _ _ _ _ _ _ (by decide) (by decide) (quiet_callTo _ _)
  | pushBC | pushDE | pushHL | pushAF =>
    exact ⟨_, rfl, .ran _ _ _ (by decide) (by decide) (quiet_pushPair _ _)⟩
  | addAD8 _ | adcAD8 _ | subD8 _ | sbcAD8 _ | andD8 _ | xorD8 _ | orD8 _ | cpD8 _ =>
    exact ⟨_, rfl, .ran _ _ _ (by decide) (by decide) (quiet_aluApply _ _ _)⟩
  | rst00 | callA16 _ | rst08 | rst10 | rst18 | rst20 | rst28 | rst30 | rst38 =>
    exact ⟨_, rfl, .ran _ _ _ (by decide) (by decide) (quiet_callTo _ _)⟩
  | ret =>
    exact ⟨_, rfl, .ran _ _ _ (by decide) (by decide) (quiet_returnPop _)⟩
  | reti =>
    exact ⟨_, rfl, .ran _ _ _ (by decide) (by decide) (quiet_returnInterrupt _)⟩
  | addSPE8 _ =>
    exact ⟨_, rfl, .ran _ _ _ (by decide) (by decide) (quiet_addSPOffset _ _)⟩
  | di | ei =>
    exact ⟨_, rfl, .ran _ _ _ (by decide) (by decide) (quiet_setIme _ _)⟩
  | ldHLSPE8 _ =>
    exact ⟨_, rfl, .ran _ _ _ (by decide) (by decide) (quiet_loadHLSPOffset _ _)⟩
  | rlcB | rlcC | rlcD | rlcE | rlcH | rlcL | rlcIndHL | rlcA | rrcB | rrcC | rrcD | rrcE | rrcH | rrcL | rrcIndHL
  | rrcA | rlB | rlC | rlD | rlE | rlH | rlL | rlIndHL | rlA | rrB | rrC | rrD | rrE | rrH | rrL | rrIndHL | rrA
  | slaB | slaC | slaD | slaE | slaH | slaL | slaIndHL | slaA | sraB | sraC | sraD | sraE | sraH | sraL | sraIndHL
  | sraA | swapB | swapC | swapD | swapE | swapH | swapL | swapIndHL | swapA | srlB | srlC | srlD | srlE | srlH
  | srlL | srlIndHL | srlA =>
    exact ⟨_, rfl, .ran _ _ _ (by decide) (by decide) (quiet_rotateOp _ _ _)⟩
  | bitB _ | bitC _ | bitD _ | bitE _ | bitH _ | bitL _ | bitIndHL _ | bitA _ =>
    exact ⟨_, rfl, .ran _ _ _ (by decide) (by decide) (quiet_testBit _ _ _)⟩
  | resB _ | resC _ | resD _ | resE _ | resH _ | resL _ | resIndHL _ | resA _ =>
    exact ⟨_, rfl, .ran _ _ _ (by decide) (by decide) (quiet_clearBit _ _ _)⟩
  | setB _ | setC _ | setD _ | setE _ | setH _ | setL _ | setIndHL _ | setA _ =>
    exact ⟨_, rfl, .ran _ _ _ (by decide) (by decide) (quiet_setBit _ _ _)⟩

/-- The memory, the flag nibble, the display and the cycle total after any instruction. -/
theorem Effect.keeps {s t : State} (h : Effect s t) :
    (s.mem.wf = true → t.mem.wf = true) ∧ (∀ a, a.toNat < 0x8000 → read8 a t = read8 a s) ∧
      (s.f &&& 0x0F = 0 → t.f &&& 0x0F = 0) ∧ t.dot = s.dot ∧ t.line = s.line ∧ t.frameReady = s.frameReady ∧
      t.fb = s.fb ∧ s.cycles ≤ t.cycles := by
  cases h with
  | raised bytes => exact ⟨id, fun _ _ => rfl, id, rfl, rfl, rfl, rfl, Nat.le_refl _⟩
  | ran len cost _ _ _ q =>
    exact ⟨q.wf, q.rom, q.nibble, q.device.dot, q.device.line, q.device.frameReady, q.device.fb,
      q.cycles ▸ Nat.le_add_right _ _⟩

end Sys2Proof.Machine
end

