-- ==== Sys2Proof/Laws/Exec.lean ====
section
/-! SUPPORT. What exec does with each regular family of the opcode map, given its operands: the one place where a family's
rows are told apart. -/

namespace Sys2Proof.Machine

open Sys2Proof.Safety

/-- The block of 8-bit loads (R101, R103, R104). -/
theorem exec_ld (dst src : Operand8) (h : ¬ (dst = .hlMem ∧ src = .hlMem)) (s : State) :
    exec (ldInstr dst src) s = .next (load8 dst src (retire 1
      (match dst, src with
        | .reg _, .reg _ => 4
        | _, _ => 8) s)) := by
  cases dst with
  | reg r => cases src with
    | reg q => cases r <;> cases q <;> rfl
    | hlMem => cases r <;> rfl
  | hlMem => cases src with
    | reg q => cases q <;> rfl
    | hlMem => exact absurd ⟨rfl, rfl⟩ h

/-- Immediate bytes (R102, R105). -/
theorem exec_ldImm (o : Operand8) (v : Byte) (s : State) :
    exec (ldImmInstr o v) s = .next (loadImm8 o v (retire 2 (costFor o 8 12) s)) := by
  cases o with
  | reg r => cases r <;> rfl
  | hlMem => rfl

/-- Immediate words (R130). -/
theorem exec_ldPair (p : Pair) (v : Word) (s : State) :
    exec (ldPairInstr p v) s = .next (setPair p v (retire 3 12 s)) := by cases p <;> rfl

/-- PUSH (R134). -/
theorem exec_push (p : StackPair) (s : State) :
    exec (pushInstr p) s = .next (pushPair p (retire 1 16 s)) := by cases p <;> rfl

/-- POP (R135, R136). -/
theorem exec_pop (p : StackPair) (s : State) :
    exec (popInstr p) s = .next (popPair p (retire 1 12 s)) := by cases p <;> rfl

/-- The ALU block (R153 to R176). -/
theorem exec_alu (op : AluOp) (o : Operand8) (s : State) :
    exec (aluInstr op o) s = .next (aluApply op (op8 o s) (retire 1 (costFor o 4 8) s)) := by
  cases o with
  | reg r => cases op <;> cases r <;> rfl
  | hlMem => cases op <;> rfl

/-- ALU operations with an immediate (R155 to R176). -/
theorem exec_aluImm (op : AluOp) (v : Byte) (s : State) :
    exec (aluImmInstr op v) s = .next (aluApply op v (retire 2 8 s)) := by
  cases op <;> rfl

/-- Both forms of an ALU operation. -/
theorem exec_alu_forms (op : AluOp) (o : Operand8) (v : Byte) (s : State) (form : Instr × Byte × Nat × Nat)
   (h : form ∈ [(aluInstr op o, op8 o s, 1, costFor o 4 8), (aluImmInstr op v, v, 2, 8)]) :
   exec form.1 s = .next (aluApply op form.2.1 (retire form.2.2.1 form.2.2.2 s)) := by
  simp only [List.mem_cons, List.not_mem_nil, or_false] at h
  rcases h with rfl | rfl
  · exact exec_alu op o s
  · exact exec_aluImm op v s

/-- 8-bit increments (R177, R178). -/
theorem exec_inc (o : Operand8) (s : State) :
    exec (incInstr o) s = .next (incOp o (retire 1 (costFor o 4 12) s)) := by
  cases o with
  | reg r => cases r <;> rfl
  | hlMem => rfl

/-- 8-bit decrements (R179, R180). -/
theorem exec_dec (o : Operand8) (s : State) :
    exec (decInstr o) s = .next (decOp o (retire 1 (costFor o 4 12) s)) := by
  cases o with
  | reg r => cases r <;> rfl
  | hlMem => rfl

/-- Pair increments (R190). -/
theorem exec_incPair (p : Pair) (s : State) :
    exec (incPairInstr p) s = .next (incPair p (retire 1 8 s)) := by cases p <;> rfl

/-- Pair decrements (R191). -/
theorem exec_decPair (p : Pair) (s : State) :
    exec (decPairInstr p) s = .next (decPair p (retire 1 8 s)) := by cases p <;> rfl

/-- ADD HL (R192). -/
theorem exec_addHL (p : Pair) (s : State) :
    exec (addHLInstr p) s = .next (addHLPair p (retire 1 8 s)) := by cases p <;> rfl

/-- Rotates and shifts (R205 to R220). -/
theorem exec_rotate (op : RotOp) (o : Operand8) (s : State) :
    exec (rotateInstr op o) s = .next (rotateOp op o (retire 2 (costFor o 8 16) s)) := by
  cases o with
  | reg r => cases op <;> cases r <;> rfl
  | hlMem => cases op <;> rfl

/-- BIT (R221, R222). -/
theorem exec_bit (b : BitVec 3) (o : Operand8) (s : State) :
    exec (bitInstr b o) s = .next (testBit b o (retire 2 (costFor o 8 12) s)) := by
  cases o with
  | reg r => cases r <;> rfl
  | hlMem => rfl

/-- RES (R223, R224). -/
theorem exec_res (b : BitVec 3) (o : Operand8) (s : State) :
    exec (resInstr b o) s = .next (clearBit b o (retire 2 (costFor o 8 16) s)) := by
  cases o with
  | reg r => cases r <;> rfl
  | hlMem => rfl

/-- SET (R225, R226). -/
theorem exec_set (b : BitVec 3) (o : Operand8) (s : State) :
    exec (setInstr b o) s = .next (setBit b o (retire 2 (costFor o 8 16) s)) := by
  cases o with
  | reg r => cases r <;> rfl
  | hlMem => rfl

/-- Conditional relative jumps (R235). -/
theorem exec_jr (cc : Cond) (e : Byte) (s : State) : exec (jrInstr cc e) s =
    if cond cc s then .next (jumpRelative e (retire 2 12 s)) else .next (retire 2 8 s) := by cases cc <;> rfl

/-- Conditional absolute jumps (R232). -/
theorem exec_jp (cc : Cond) (t : Word) (s : State) : exec (jpInstr cc t) s =
    if cond cc s then .next (jumpTo t (retire 3 16 s)) else .next (retire 3 12 s) := by cases cc <;> rfl

/-- Conditional calls (R237). -/
theorem exec_call (cc : Cond) (t : Word) (s : State) : exec (callInstr cc t) s =
    if cond cc s then .next (callTo t (retire 3 24 s)) else .next (retire 3 12 s) := by cases cc <;> rfl

/-- Conditional returns (R239). -/
theorem exec_ret (cc : Cond) (s : State) : exec (retInstr cc) s =
    if cond cc s then .next (returnPop (retire 1 20 s)) else .next (retire 1 8 s) := by cases cc <;> rfl

/-- Restarts (R241). -/
theorem exec_rst (ttt : BitVec 3) (s : State) : exec (rstInstr ttt) s =
    .next (callTo (BitVec.ofNat 16 (ttt.toNat * 8)) (retire 1 16 s)) := by
  have h : ttt.toNat < 8 := ttt.isLt
  unfold rstInstr
  interval_cases ttt.toNat <;> rfl

end Sys2Proof.Machine
end

