-- ==== Sys2Proof/Laws/PerInstr.lean ====
section
/-! SUPPORT. The statements made of every instruction, one lemma for each constructor. -/

namespace Sys2Proof.Laws.EncodedLength

/-- The encoding is as long as its first byte says (R83, R95). -/
def Statement (i : Instr) : Prop := ∃ op rest, encode i = op :: rest ∧ (encode i).length = lengthOf op

theorem ldBCD16 (v : Word) : Statement (.ldBCD16 v) := ⟨_, _, rfl, rfl⟩
theorem ldBD8 (v : Byte) : Statement (.ldBD8 v) := ⟨_, _, rfl, rfl⟩
theorem ldIndA16SP (a : Word) : Statement (.ldIndA16SP a) := ⟨_, _, rfl, rfl⟩
theorem ldCD8 (v : Byte) : Statement (.ldCD8 v) := ⟨_, _, rfl, rfl⟩
theorem ldDED16 (v : Word) : Statement (.ldDED16 v) := ⟨_, _, rfl, rfl⟩
theorem ldDD8 (v : Byte) : Statement (.ldDD8 v) := ⟨_, _, rfl, rfl⟩
theorem jrE8 (e : Byte) : Statement (.jrE8 e) := ⟨_, _, rfl, rfl⟩
theorem ldED8 (v : Byte) : Statement (.ldED8 v) := ⟨_, _, rfl, rfl⟩
theorem jrNZE8 (e : Byte) : Statement (.jrNZE8 e) := ⟨_, _, rfl, rfl⟩
theorem ldHLD16 (v : Word) : Statement (.ldHLD16 v) := ⟨_, _, rfl, rfl⟩
theorem ldHD8 (v : Byte) : Statement (.ldHD8 v) := ⟨_, _, rfl, rfl⟩
theorem jrZE8 (e : Byte) : Statement (.jrZE8 e) := ⟨_, _, rfl, rfl⟩
theorem ldLD8 (v : Byte) : Statement (.ldLD8 v) := ⟨_, _, rfl, rfl⟩
theorem jrNCE8 (e : Byte) : Statement (.jrNCE8 e) := ⟨_, _, rfl, rfl⟩
theorem ldSPD16 (v : Word) : Statement (.ldSPD16 v) := ⟨_, _, rfl, rfl⟩
theorem ldIndHLD8 (v : Byte) : Statement (.ldIndHLD8 v) := ⟨_, _, rfl, rfl⟩
theorem jrCE8 (e : Byte) : Statement (.jrCE8 e) := ⟨_, _, rfl, rfl⟩
theorem ldAD8 (v : Byte) : Statement (.ldAD8 v) := ⟨_, _, rfl, rfl⟩
theorem jpNZA16 (t : Word) : Statement (.jpNZA16 t) := ⟨_, _, rfl, rfl⟩
theorem jpA16 (t : Word) : Statement (.jpA16 t) := ⟨_, _, rfl, rfl⟩
theorem callNZA16 (t : Word) : Statement (.callNZA16 t) := ⟨_, _, rfl, rfl⟩
theorem addAD8 (v : Byte) : Statement (.addAD8 v) := ⟨_, _, rfl, rfl⟩
theorem jpZA16 (t : Word) : Statement (.jpZA16 t) := ⟨_, _, rfl, rfl⟩
theorem prefixCb (op2 : Byte) : Statement (.prefixCb op2) := ⟨_, _, rfl, rfl⟩
theorem callZA16 (t : Word) : Statement (.callZA16 t) := ⟨_, _, rfl, rfl⟩
theorem callA16 (t : Word) : Statement (.callA16 t) := ⟨_, _, rfl, rfl⟩
theorem adcAD8 (v : Byte) : Statement (.adcAD8 v) := ⟨_, _, rfl, rfl⟩
theorem jpNCA16 (t : Word) : Statement (.jpNCA16 t) := ⟨_, _, rfl, rfl⟩
theorem callNCA16 (t : Word) : Statement (.callNCA16 t) := ⟨_, _, rfl, rfl⟩
theorem subD8 (v : Byte) : Statement (.subD8 v) := ⟨_, _, rfl, rfl⟩
theorem jpCA16 (t : Word) : Statement (.jpCA16 t) := ⟨_, _, rfl, rfl⟩
theorem callCA16 (t : Word) : Statement (.callCA16 t) := ⟨_, _, rfl, rfl⟩
theorem sbcAD8 (v : Byte) : Statement (.sbcAD8 v) := ⟨_, _, rfl, rfl⟩
theorem ldhIndA8A (n : Byte) : Statement (.ldhIndA8A n) := ⟨_, _, rfl, rfl⟩
theorem andD8 (v : Byte) : Statement (.andD8 v) := ⟨_, _, rfl, rfl⟩
theorem addSPE8 (e : Byte) : Statement (.addSPE8 e) := ⟨_, _, rfl, rfl⟩
theorem ldIndA16A (a : Word) : Statement (.ldIndA16A a) := ⟨_, _, rfl, rfl⟩
theorem xorD8 (v : Byte) : Statement (.xorD8 v) := ⟨_, _, rfl, rfl⟩
theorem ldhAIndA8 (n : Byte) : Statement (.ldhAIndA8 n) := ⟨_, _, rfl, rfl⟩
theorem orD8 (v : Byte) : Statement (.orD8 v) := ⟨_, _, rfl, rfl⟩
theorem ldHLSPE8 (e : Byte) : Statement (.ldHLSPE8 e) := ⟨_, _, rfl, rfl⟩
theorem ldAIndA16 (a : Word) : Statement (.ldAIndA16 a) := ⟨_, _, rfl, rfl⟩
theorem cpD8 (v : Byte) : Statement (.cpD8 v) := ⟨_, _, rfl, rfl⟩
theorem bitB (b : BitVec 3) : Statement (.bitB b) := ⟨_, _, rfl, rfl⟩
theorem bitC (b : BitVec 3) : Statement (.bitC b) := ⟨_, _, rfl, rfl⟩
theorem bitD (b : BitVec 3) : Statement (.bitD b) := ⟨_, _, rfl, rfl⟩
theorem bitE (b : BitVec 3) : Statement (.bitE b) := ⟨_, _, rfl, rfl⟩
theorem bitH (b : BitVec 3) : Statement (.bitH b) := ⟨_, _, rfl, rfl⟩
theorem bitL (b : BitVec 3) : Statement (.bitL b) := ⟨_, _, rfl, rfl⟩
theorem bitIndHL (b : BitVec 3) : Statement (.bitIndHL b) := ⟨_, _, rfl, rfl⟩
theorem bitA (b : BitVec 3) : Statement (.bitA b) := ⟨_, _, rfl, rfl⟩
theorem resB (b : BitVec 3) : Statement (.resB b) := ⟨_, _, rfl, rfl⟩
theorem resC (b : BitVec 3) : Statement (.resC b) := ⟨_, _, rfl, rfl⟩
theorem resD (b : BitVec 3) : Statement (.resD b) := ⟨_, _, rfl, rfl⟩
theorem resE (b : BitVec 3) : Statement (.resE b) := ⟨_, _, rfl, rfl⟩
theorem resH (b : BitVec 3) : Statement (.resH b) := ⟨_, _, rfl, rfl⟩
theorem resL (b : BitVec 3) : Statement (.resL b) := ⟨_, _, rfl, rfl⟩
theorem resIndHL (b : BitVec 3) : Statement (.resIndHL b) := ⟨_, _, rfl, rfl⟩
theorem resA (b : BitVec 3) : Statement (.resA b) := ⟨_, _, rfl, rfl⟩
theorem setB (b : BitVec 3) : Statement (.setB b) := ⟨_, _, rfl, rfl⟩
theorem setC (b : BitVec 3) : Statement (.setC b) := ⟨_, _, rfl, rfl⟩
theorem setD (b : BitVec 3) : Statement (.setD b) := ⟨_, _, rfl, rfl⟩
theorem setE (b : BitVec 3) : Statement (.setE b) := ⟨_, _, rfl, rfl⟩
theorem setH (b : BitVec 3) : Statement (.setH b) := ⟨_, _, rfl, rfl⟩
theorem setL (b : BitVec 3) : Statement (.setL b) := ⟨_, _, rfl, rfl⟩
theorem setIndHL (b : BitVec 3) : Statement (.setIndHL b) := ⟨_, _, rfl, rfl⟩
theorem setA (b : BitVec 3) : Statement (.setA b) := ⟨_, _, rfl, rfl⟩
theorem nop : Statement .nop := ⟨_, _, rfl, rfl⟩
theorem ldIndBCA : Statement .ldIndBCA := ⟨_, _, rfl, rfl⟩
theorem incBC : Statement .incBC := ⟨_, _, rfl, rfl⟩
theorem incB : Statement .incB := ⟨_, _, rfl, rfl⟩
theorem decB : Statement .decB := ⟨_, _, rfl, rfl⟩
theorem rlca : Statement .rlca := ⟨_, _, rfl, rfl⟩
theorem addHLBC : Statement .addHLBC := ⟨_, _, rfl, rfl⟩
theorem ldAIndBC : Statement .ldAIndBC := ⟨_, _, rfl, rfl⟩
theorem decBC : Statement .decBC := ⟨_, _, rfl, rfl⟩
theorem incC : Statement .incC := ⟨_, _, rfl, rfl⟩
theorem decC : Statement .decC := ⟨_, _, rfl, rfl⟩
theorem rrca : Statement .rrca := ⟨_, _, rfl, rfl⟩
theorem stop : Statement .stop := ⟨_, _, rfl, rfl⟩
theorem ldIndDEA : Statement .ldIndDEA := ⟨_, _, rfl, rfl⟩
theorem incDE : Statement .incDE := ⟨_, _, rfl, rfl⟩
theorem incD : Statement .incD := ⟨_, _, rfl, rfl⟩
theorem decD : Statement .decD := ⟨_, _, rfl, rfl⟩
theorem rla : Statement .rla := ⟨_, _, rfl, rfl⟩
theorem addHLDE : Statement .addHLDE := ⟨_, _, rfl, rfl⟩
theorem ldAIndDE : Statement .ldAIndDE := ⟨_, _, rfl, rfl⟩
theorem decDE : Statement .decDE := ⟨_, _, rfl, rfl⟩
theorem incE : Statement .incE := ⟨_, _, rfl, rfl⟩
theorem decE : Statement .decE := ⟨_, _, rfl, rfl⟩
theorem rra : Statement .rra := ⟨_, _, rfl, rfl⟩
theorem ldIndHLIncA : Statement .ldIndHLIncA := ⟨_, _, rfl, rfl⟩
theorem incHL : Statement .incHL := ⟨_, _, rfl, rfl⟩
theorem incH : Statement .incH := ⟨_, _, rfl, rfl⟩
theorem decH : Statement .decH := ⟨_, _, rfl, rfl⟩
theorem daa : Statement .daa := ⟨_, _, rfl, rfl⟩
theorem addHLHL : Statement .addHLHL := ⟨_, _, rfl, rfl⟩
theorem ldAIndHLInc : Statement .ldAIndHLInc := ⟨_, _, rfl, rfl⟩
theorem decHL : Statement .decHL := ⟨_, _, rfl, rfl⟩
theorem incL : Statement .incL := ⟨_, _, rfl, rfl⟩
theorem decL : Statement .decL := ⟨_, _, rfl, rfl⟩
theorem cpl : Statement .cpl := ⟨_, _, rfl, rfl⟩
theorem ldIndHLDecA : Statement .ldIndHLDecA := ⟨_, _, rfl, rfl⟩
theorem incSP : Statement .incSP := ⟨_, _, rfl, rfl⟩
theorem incIndHL : Statement .incIndHL := ⟨_, _, rfl, rfl⟩
theorem decIndHL : Statement .decIndHL := ⟨_, _, rfl, rfl⟩
theorem scf : Statement .scf := ⟨_, _, rfl, rfl⟩
theorem addHLSP : Statement .addHLSP := ⟨_, _, rfl, rfl⟩
theorem ldAIndHLDec : Statement .ldAIndHLDec := ⟨_, _, rfl, rfl⟩
theorem decSP : Statement .decSP := ⟨_, _, rfl, rfl⟩
theorem incA : Statement .incA := ⟨_, _, rfl, rfl⟩
theorem decA : Statement .decA := ⟨_, _, rfl, rfl⟩
theorem ccf : Statement .ccf := ⟨_, _, rfl, rfl⟩
theorem ldBB : Statement .ldBB := ⟨_, _, rfl, rfl⟩
theorem ldBC : Statement .ldBC := ⟨_, _, rfl, rfl⟩
theorem ldBD : Statement .ldBD := ⟨_, _, rfl, rfl⟩
theorem ldBE : Statement .ldBE := ⟨_, _, rfl, rfl⟩
theorem ldBH : Statement .ldBH := ⟨_, _, rfl, rfl⟩
theorem ldBL : Statement .ldBL := ⟨_, _, rfl, rfl⟩
theorem ldBIndHL : Statement .ldBIndHL := ⟨_, _, rfl, rfl⟩
theorem ldBA : Statement .ldBA := ⟨_, _, rfl, rfl⟩
theorem ldCB : Statement .ldCB := ⟨_, _, rfl, rfl⟩
theorem ldCC : Statement .ldCC := ⟨_, _, rfl, rfl⟩
theorem ldCD : Statement .ldCD := ⟨_, _, rfl, rfl⟩
theorem ldCE : Statement .ldCE := ⟨_, _, rfl, rfl⟩
theorem ldCH : Statement .ldCH := ⟨_, _, rfl, rfl⟩
theorem ldCL : Statement .ldCL := ⟨_, _, rfl, rfl⟩
theorem ldCIndHL : Statement .ldCIndHL := ⟨_, _, rfl, rfl⟩
theorem ldCA : Statement .ldCA := ⟨_, _, rfl, rfl⟩
theorem ldDB : Statement .ldDB := ⟨_, _, rfl, rfl⟩
theorem ldDC : Statement .ldDC := ⟨_, _, rfl, rfl⟩
theorem ldDD : Statement .ldDD := ⟨_, _, rfl, rfl⟩
theorem ldDE : Statement .ldDE := ⟨_, _, rfl, rfl⟩
theorem ldDH : Statement .ldDH := ⟨_, _, rfl, rfl⟩
theorem ldDL : Statement .ldDL := ⟨_, _, rfl, rfl⟩
theorem ldDIndHL : Statement .ldDIndHL := ⟨_, _, rfl, rfl⟩
theorem ldDA : Statement .ldDA := ⟨_, _, rfl, rfl⟩
theorem ldEB : Statement .ldEB := ⟨_, _, rfl, rfl⟩
theorem ldEC : Statement .ldEC := ⟨_, _, rfl, rfl⟩
theorem ldED : Statement .ldED := ⟨_, _, rfl, rfl⟩
theorem ldEE : Statement .ldEE := ⟨_, _, rfl, rfl⟩
theorem ldEH : Statement .ldEH := ⟨_, _, rfl, rfl⟩
theorem ldEL : Statement .ldEL := ⟨_, _, rfl, rfl⟩
theorem ldEIndHL : Statement .ldEIndHL := ⟨_, _, rfl, rfl⟩
theorem ldEA : Statement .ldEA := ⟨_, _, rfl, rfl⟩
theorem ldHB : Statement .ldHB := ⟨_, _, rfl, rfl⟩
theorem ldHC : Statement .ldHC := ⟨_, _, rfl, rfl⟩
theorem ldHD : Statement .ldHD := ⟨_, _, rfl, rfl⟩
theorem ldHE : Statement .ldHE := ⟨_, _, rfl, rfl⟩
theorem ldHH : Statement .ldHH := ⟨_, _, rfl, rfl⟩
theorem ldHL : Statement .ldHL := ⟨_, _, rfl, rfl⟩
theorem ldHIndHL : Statement .ldHIndHL := ⟨_, _, rfl, rfl⟩
theorem ldHA : Statement .ldHA := ⟨_, _, rfl, rfl⟩
theorem ldLB : Statement .ldLB := ⟨_, _, rfl, rfl⟩
theorem ldLC : Statement .ldLC := ⟨_, _, rfl, rfl⟩
theorem ldLD : Statement .ldLD := ⟨_, _, rfl, rfl⟩
theorem ldLE : Statement .ldLE := ⟨_, _, rfl, rfl⟩
theorem ldLH : Statement .ldLH := ⟨_, _, rfl, rfl⟩
theorem ldLL : Statement .ldLL := ⟨_, _, rfl, rfl⟩
theorem ldLIndHL : Statement .ldLIndHL := ⟨_, _, rfl, rfl⟩
theorem ldLA : Statement .ldLA := ⟨_, _, rfl, rfl⟩
theorem ldIndHLB : Statement .ldIndHLB := ⟨_, _, rfl, rfl⟩
theorem ldIndHLC : Statement .ldIndHLC := ⟨_, _, rfl, rfl⟩
theorem ldIndHLD : Statement .ldIndHLD := ⟨_, _, rfl, rfl⟩
theorem ldIndHLE : Statement .ldIndHLE := ⟨_, _, rfl, rfl⟩
theorem ldIndHLH : Statement .ldIndHLH := ⟨_, _, rfl, rfl⟩
theorem ldIndHLL : Statement .ldIndHLL := ⟨_, _, rfl, rfl⟩
theorem halt : Statement .halt := ⟨_, _, rfl, rfl⟩
theorem ldIndHLA : Statement .ldIndHLA := ⟨_, _, rfl, rfl⟩
theorem ldAB : Statement .ldAB := ⟨_, _, rfl, rfl⟩
theorem ldAC : Statement .ldAC := ⟨_, _, rfl, rfl⟩
theorem ldAD : Statement .ldAD := ⟨_, _, rfl, rfl⟩
theorem ldAE : Statement .ldAE := ⟨_, _, rfl, rfl⟩
theorem ldAH : Statement .ldAH := ⟨_, _, rfl, rfl⟩
theorem ldAL : Statement .ldAL := ⟨_, _, rfl, rfl⟩
theorem ldAIndHL : Statement .ldAIndHL := ⟨_, _, rfl, rfl⟩
theorem ldAA : Statement .ldAA := ⟨_, _, rfl, rfl⟩
theorem addAB : Statement .addAB := ⟨_, _, rfl, rfl⟩
theorem addAC : Statement .addAC := ⟨_, _, rfl, rfl⟩
theorem addAD : Statement .addAD := ⟨_, _, rfl, rfl⟩
theorem addAE : Statement .addAE := ⟨_, _, rfl, rfl⟩
theorem addAH : Statement .addAH := ⟨_, _, rfl, rfl⟩
theorem addAL : Statement .addAL := ⟨_, _, rfl, rfl⟩
theorem addAIndHL : Statement .addAIndHL := ⟨_, _, rfl, rfl⟩
theorem addAA : Statement .addAA := ⟨_, _, rfl, rfl⟩
theorem adcAB : Statement .adcAB := ⟨_, _, rfl, rfl⟩
theorem adcAC : Statement .adcAC := ⟨_, _, rfl, rfl⟩
theorem adcAD : Statement .adcAD := ⟨_, _, rfl, rfl⟩
theorem adcAE : Statement .adcAE := ⟨_, _, rfl, rfl⟩
theorem adcAH : Statement .adcAH := ⟨_, _, rfl, rfl⟩
theorem adcAL : Statement .adcAL := ⟨_, _, rfl, rfl⟩
theorem adcAIndHL : Statement .adcAIndHL := ⟨_, _, rfl, rfl⟩
theorem adcAA : Statement .adcAA := ⟨_, _, rfl, rfl⟩
theorem subB : Statement .subB := ⟨_, _, rfl, rfl⟩
theorem subC : Statement .subC := ⟨_, _, rfl, rfl⟩
theorem subD : Statement .subD := ⟨_, _, rfl, rfl⟩
theorem subE : Statement .subE := ⟨_, _, rfl, rfl⟩
theorem subH : Statement .subH := ⟨_, _, rfl, rfl⟩
theorem subL : Statement .subL := ⟨_, _, rfl, rfl⟩
theorem subIndHL : Statement .subIndHL := ⟨_, _, rfl, rfl⟩
theorem subA : Statement .subA := ⟨_, _, rfl, rfl⟩
theorem sbcAB : Statement .sbcAB := ⟨_, _, rfl, rfl⟩
theorem sbcAC : Statement .sbcAC := ⟨_, _, rfl, rfl⟩
theorem sbcAD : Statement .sbcAD := ⟨_, _, rfl, rfl⟩
theorem sbcAE : Statement .sbcAE := ⟨_, _, rfl, rfl⟩
theorem sbcAH : Statement .sbcAH := ⟨_, _, rfl, rfl⟩
theorem sbcAL : Statement .sbcAL := ⟨_, _, rfl, rfl⟩
theorem sbcAIndHL : Statement .sbcAIndHL := ⟨_, _, rfl, rfl⟩
theorem sbcAA : Statement .sbcAA := ⟨_, _, rfl, rfl⟩
theorem andB : Statement .andB := ⟨_, _, rfl, rfl⟩
theorem andC : Statement .andC := ⟨_, _, rfl, rfl⟩
theorem andD : Statement .andD := ⟨_, _, rfl, rfl⟩
theorem andE : Statement .andE := ⟨_, _, rfl, rfl⟩
theorem andH : Statement .andH := ⟨_, _, rfl, rfl⟩
theorem andL : Statement .andL := ⟨_, _, rfl, rfl⟩
theorem andIndHL : Statement .andIndHL := ⟨_, _, rfl, rfl⟩
theorem andA : Statement .andA := ⟨_, _, rfl, rfl⟩
theorem xorB : Statement .xorB := ⟨_, _, rfl, rfl⟩
theorem xorC : Statement .xorC := ⟨_, _, rfl, rfl⟩
theorem xorD : Statement .xorD := ⟨_, _, rfl, rfl⟩
theorem xorE : Statement .xorE := ⟨_, _, rfl, rfl⟩
theorem xorH : Statement .xorH := ⟨_, _, rfl, rfl⟩
theorem xorL : Statement .xorL := ⟨_, _, rfl, rfl⟩
theorem xorIndHL : Statement .xorIndHL := ⟨_, _, rfl, rfl⟩
theorem xorA : Statement .xorA := ⟨_, _, rfl, rfl⟩
theorem orB : Statement .orB := ⟨_, _, rfl, rfl⟩
theorem orC : Statement .orC := ⟨_, _, rfl, rfl⟩
theorem orD : Statement .orD := ⟨_, _, rfl, rfl⟩
theorem orE : Statement .orE := ⟨_, _, rfl, rfl⟩
theorem orH : Statement .orH := ⟨_, _, rfl, rfl⟩
theorem orL : Statement .orL := ⟨_, _, rfl, rfl⟩
theorem orIndHL : Statement .orIndHL := ⟨_, _, rfl, rfl⟩
theorem orA : Statement .orA := ⟨_, _, rfl, rfl⟩
theorem cpB : Statement .cpB := ⟨_, _, rfl, rfl⟩
theorem cpC : Statement .cpC := ⟨_, _, rfl, rfl⟩
theorem cpD : Statement .cpD := ⟨_, _, rfl, rfl⟩
theorem cpE : Statement .cpE := ⟨_, _, rfl, rfl⟩
theorem cpH : Statement .cpH := ⟨_, _, rfl, rfl⟩
theorem cpL : Statement .cpL := ⟨_, _, rfl, rfl⟩
theorem cpIndHL : Statement .cpIndHL := ⟨_, _, rfl, rfl⟩
theorem cpA : Statement .cpA := ⟨_, _, rfl, rfl⟩
theorem retNZ : Statement .retNZ := ⟨_, _, rfl, rfl⟩
theorem popBC : Statement .popBC := ⟨_, _, rfl, rfl⟩
theorem pushBC : Statement .pushBC := ⟨_, _, rfl, rfl⟩
theorem rst00 : Statement .rst00 := ⟨_, _, rfl, rfl⟩
theorem retZ : Statement .retZ := ⟨_, _, rfl, rfl⟩
theorem ret : Statement .ret := ⟨_, _, rfl, rfl⟩
theorem rst08 : Statement .rst08 := ⟨_, _, rfl, rfl⟩
theorem retNC : Statement .retNC := ⟨_, _, rfl, rfl⟩
theorem popDE : Statement .popDE := ⟨_, _, rfl, rfl⟩
theorem undefinedD3 : Statement .undefinedD3 := ⟨_, _, rfl, rfl⟩
theorem pushDE : Statement .pushDE := ⟨_, _, rfl, rfl⟩
theorem rst10 : Statement .rst10 := ⟨_, _, rfl, rfl⟩
theorem retC : Statement .retC := ⟨_, _, rfl, rfl⟩
theorem reti : Statement .reti := ⟨_, _, rfl, rfl⟩
theorem undefinedDB : Statement .undefinedDB := ⟨_, _, rfl, rfl⟩
theorem undefinedDD : Statement .undefinedDD := ⟨_, _, rfl, rfl⟩
theorem rst18 : Statement .rst18 := ⟨_, _, rfl, rfl⟩
theorem popHL : Statement .popHL := ⟨_, _, rfl, rfl⟩
theorem ldIndCA : Statement .ldIndCA := ⟨_, _, rfl, rfl⟩
theorem undefinedE3 : Statement .undefinedE3 := ⟨_, _, rfl, rfl⟩
theorem undefinedE4 : Statement .undefinedE4 := ⟨_, _, rfl, rfl⟩
theorem pushHL : Statement .pushHL := ⟨_, _, rfl, rfl⟩
theorem rst20 : Statement .rst20 := ⟨_, _, rfl, rfl⟩
theorem jpHL : Statement .jpHL := ⟨_, _, rfl, rfl⟩
theorem undefinedEB : Statement .undefinedEB := ⟨_, _, rfl, rfl⟩
theorem undefinedEC : Statement .undefinedEC := ⟨_, _, rfl, rfl⟩
theorem undefinedED : Statement .undefinedED := ⟨_, _, rfl, rfl⟩
theorem rst28 : Statement .rst28 := ⟨_, _, rfl, rfl⟩
theorem popAF : Statement .popAF := ⟨_, _, rfl, rfl⟩
theorem ldAIndC : Statement .ldAIndC := ⟨_, _, rfl, rfl⟩
theorem di : Statement .di := ⟨_, _, rfl, rfl⟩
theorem undefinedF4 : Statement .undefinedF4 := ⟨_, _, rfl, rfl⟩
theorem pushAF : Statement .pushAF := ⟨_, _, rfl, rfl⟩
theorem rst30 : Statement .rst30 := ⟨_, _, rfl, rfl⟩
theorem ldSPHL : Statement .ldSPHL := ⟨_, _, rfl, rfl⟩
theorem ei : Statement .ei := ⟨_, _, rfl, rfl⟩
theorem undefinedFC : Statement .undefinedFC := ⟨_, _, rfl, rfl⟩
theorem undefinedFD : Statement .undefinedFD := ⟨_, _, rfl, rfl⟩
theorem rst38 : Statement .rst38 := ⟨_, _, rfl, rfl⟩
theorem rlcB : Statement .rlcB := ⟨_, _, rfl, rfl⟩
theorem rlcC : Statement .rlcC := ⟨_, _, rfl, rfl⟩
theorem rlcD : Statement .rlcD := ⟨_, _, rfl, rfl⟩
theorem rlcE : Statement .rlcE := ⟨_, _, rfl, rfl⟩
theorem rlcH : Statement .rlcH := ⟨_, _, rfl, rfl⟩
theorem rlcL : Statement .rlcL := ⟨_, _, rfl, rfl⟩
theorem rlcIndHL : Statement .rlcIndHL := ⟨_, _, rfl, rfl⟩
theorem rlcA : Statement .rlcA := ⟨_, _, rfl, rfl⟩
theorem rrcB : Statement .rrcB := ⟨_, _, rfl, rfl⟩
theorem rrcC : Statement .rrcC := ⟨_, _, rfl, rfl⟩
theorem rrcD : Statement .rrcD := ⟨_, _, rfl, rfl⟩
theorem rrcE : Statement .rrcE := ⟨_, _, rfl, rfl⟩
theorem rrcH : Statement .rrcH := ⟨_, _, rfl, rfl⟩
theorem rrcL : Statement .rrcL := ⟨_, _, rfl, rfl⟩
theorem rrcIndHL : Statement .rrcIndHL := ⟨_, _, rfl, rfl⟩
theorem rrcA : Statement .rrcA := ⟨_, _, rfl, rfl⟩
theorem rlB : Statement .rlB := ⟨_, _, rfl, rfl⟩
theorem rlC : Statement .rlC := ⟨_, _, rfl, rfl⟩
theorem rlD : Statement .rlD := ⟨_, _, rfl, rfl⟩
theorem rlE : Statement .rlE := ⟨_, _, rfl, rfl⟩
theorem rlH : Statement .rlH := ⟨_, _, rfl, rfl⟩
theorem rlL : Statement .rlL := ⟨_, _, rfl, rfl⟩
theorem rlIndHL : Statement .rlIndHL := ⟨_, _, rfl, rfl⟩
theorem rlA : Statement .rlA := ⟨_, _, rfl, rfl⟩
theorem rrB : Statement .rrB := ⟨_, _, rfl, rfl⟩
theorem rrC : Statement .rrC := ⟨_, _, rfl, rfl⟩
theorem rrD : Statement .rrD := ⟨_, _, rfl, rfl⟩
theorem rrE : Statement .rrE := ⟨_, _, rfl, rfl⟩
theorem rrH : Statement .rrH := ⟨_, _, rfl, rfl⟩
theorem rrL : Statement .rrL := ⟨_, _, rfl, rfl⟩
theorem rrIndHL : Statement .rrIndHL := ⟨_, _, rfl, rfl⟩
theorem rrA : Statement .rrA := ⟨_, _, rfl, rfl⟩
theorem slaB : Statement .slaB := ⟨_, _, rfl, rfl⟩
theorem slaC : Statement .slaC := ⟨_, _, rfl, rfl⟩
theorem slaD : Statement .slaD := ⟨_, _, rfl, rfl⟩
theorem slaE : Statement .slaE := ⟨_, _, rfl, rfl⟩
theorem slaH : Statement .slaH := ⟨_, _, rfl, rfl⟩
theorem slaL : Statement .slaL := ⟨_, _, rfl, rfl⟩
theorem slaIndHL : Statement .slaIndHL := ⟨_, _, rfl, rfl⟩
theorem slaA : Statement .slaA := ⟨_, _, rfl, rfl⟩
theorem sraB : Statement .sraB := ⟨_, _, rfl, rfl⟩
theorem sraC : Statement .sraC := ⟨_, _, rfl, rfl⟩
theorem sraD : Statement .sraD := ⟨_, _, rfl, rfl⟩
theorem sraE : Statement .sraE := ⟨_, _, rfl, rfl⟩
theorem sraH : Statement .sraH := ⟨_, _, rfl, rfl⟩
theorem sraL : Statement .sraL := ⟨_, _, rfl, rfl⟩
theorem sraIndHL : Statement .sraIndHL := ⟨_, _, rfl, rfl⟩
theorem sraA : Statement .sraA := ⟨_, _, rfl, rfl⟩
theorem swapB : Statement .swapB := ⟨_, _, rfl, rfl⟩
theorem swapC : Statement .swapC := ⟨_, _, rfl, rfl⟩
theorem swapD : Statement .swapD := ⟨_, _, rfl, rfl⟩
theorem swapE : Statement .swapE := ⟨_, _, rfl, rfl⟩
theorem swapH : Statement .swapH := ⟨_, _, rfl, rfl⟩
theorem swapL : Statement .swapL := ⟨_, _, rfl, rfl⟩
theorem swapIndHL : Statement .swapIndHL := ⟨_, _, rfl, rfl⟩
theorem swapA : Statement .swapA := ⟨_, _, rfl, rfl⟩
theorem srlB : Statement .srlB := ⟨_, _, rfl, rfl⟩
theorem srlC : Statement .srlC := ⟨_, _, rfl, rfl⟩
theorem srlD : Statement .srlD := ⟨_, _, rfl, rfl⟩
theorem srlE : Statement .srlE := ⟨_, _, rfl, rfl⟩
theorem srlH : Statement .srlH := ⟨_, _, rfl, rfl⟩
theorem srlL : Statement .srlL := ⟨_, _, rfl, rfl⟩
theorem srlIndHL : Statement .srlIndHL := ⟨_, _, rfl, rfl⟩
theorem srlA : Statement .srlA := ⟨_, _, rfl, rfl⟩

end Sys2Proof.Laws.EncodedLength
end

