-- ==== Sys2Proof/Laws/Run.lean ====
section
/-! SUPPORT. The equations of a bounded run and of the driver loop, the three statuses told apart, and the induction over
a run packaged once (`runSteps_keeps`). -/

namespace Sys2Proof.Machine

/-! ### `andThen` -/

@[simp] theorem andThen_next {α : Type} (s : State) (go : State → Host.Outcome α Fault Refusal) :
    andThen (.next s) go = go s := rfl

/-- A composition that answers has answered a state in between. -/
theorem andThen_eq_next {α : Type} {r : Result} {go : State → Host.Outcome α Fault Refusal} {a : α}
    (h : andThen r go = .next a) : ∃ s, r = .next s ∧ go s = .next a := by
  cases r with
  | next s => exact ⟨s, rfl, h⟩
  | fault q => cases h
  | refused q => cases h

/-! ### The bounded run -/

@[simp] theorem runSteps_zero (k : Config.Interpreter) (s : State) : runSteps k 0 s = .next s := rfl

theorem runSteps_succ (k : Config.Interpreter) (n : Nat) (s : State) :
    runSteps k (n + 1) s = andThen (stepWith k s) (fun t => runSteps k n t) := rfl

theorem runSteps_of_step {k : Config.Interpreter} {s t : State} (h : stepWith k s = .next t) (n : Nat) :
    runSteps k (n + 1) s = runSteps k n t := by rw [runSteps_succ, h, andThen_next]

/-- A run of `m + n` steps is a run of `m` and then one of `n`. -/
theorem runSteps_add (k : Config.Interpreter) (m n : Nat) (s : State) :
    runSteps k (m + n) s = andThen (runSteps k m s) (fun t => runSteps k n t) := by
  induction m generalizing s with
  | zero => rw [Nat.zero_add]; rfl
  | succ m ih =>
    rw [Nat.succ_add, runSteps_succ, runSteps_succ]
    cases stepWith k s with
    | next t => exact ih t
    | fault q => rfl
    | refused q => rfl

/-- What every step keeps, every bounded run keeps. -/
theorem runSteps_keeps {k : Config.Interpreter} {P : State → Prop}
    (step_keeps : ∀ s t, P s → stepWith k s = .next t → P t) {n : Nat} {s t : State} (hs : P s)
    (h : runSteps k n s = .next t) : P t := by
  induction n generalizing s with
  | zero => cases h; exact hs
  | succ n ih =>
    obtain ⟨u, hu, hrest⟩ := andThen_eq_next h
    exact ih (step_keeps s u hs hu) hrest

/-! ### The status at a step boundary -/

/-- The status in the spec's own terms. -/
theorem runStatus_eq (l : Config.Launch) (s : State) :
    runStatus l s = if s.fault ≠ none then .faulted else if s.pc ∈ l.stopPcs then .ended else .running := by
  by_cases hf : s.fault = none <;> simp [runStatus, runEnded, runFaulted, hf, Option.isSome_iff_ne_none]

theorem runStatus_faulted_iff (l : Config.Launch) (s : State) : runStatus l s = .faulted ↔ s.fault ≠ none := by
  rw [runStatus_eq]
  by_cases hf : s.fault = none <;> by_cases hp : s.pc ∈ l.stopPcs <;> simp [hf, hp]

theorem runStatus_ended_iff (l : Config.Launch) (s : State) :
    runStatus l s = .ended ↔ s.fault = none ∧ s.pc ∈ l.stopPcs := by
  rw [runStatus_eq]
  by_cases hf : s.fault = none <;> by_cases hp : s.pc ∈ l.stopPcs <;> simp [hf, hp]

theorem runStatus_running_iff (l : Config.Launch) (s : State) :
    runStatus l s = .running ↔ s.fault = none ∧ s.pc ∉ l.stopPcs := by
  rw [runStatus_eq]
  by_cases hf : s.fault = none <;> by_cases hp : s.pc ∈ l.stopPcs <;> simp [hf, hp]

/-! ### The driver loop -/

@[simp] theorem driveFrom_zero (l : Config.Launch) (taken : Nat) (s : State) :
    driveFrom l taken 0 s = .next { status := runStatus l s, steps := taken, state := s } := rfl

theorem driveFrom_running {l : Config.Launch} {s t : State} (h : runStatus l s = .running)
    (ht : stepWith l.interpreter s = .next t) (taken n : Nat) :
    driveFrom l taken (n + 1) s = driveFrom l (taken + 1) n t := by
  simp only [driveFrom, h, ht, andThen_next]

theorem driveFrom_stopped {l : Config.Launch} {s : State} (h : runStatus l s ≠ .running) (taken n : Nat) :
    driveFrom l taken n s = .next { status := runStatus l s, steps := taken, state := s } := by
  cases n with
  | zero => rfl
  | succ n =>
    unfold driveFrom
    cases hs : runStatus l s with
    | running => exact absurd hs h
    | ended => rfl
    | faulted => rfl

end Sys2Proof.Machine
end

