-- ==== Sys2Proof/Tests/Slice0.lean ====
section
/-! SUPPORT. Tests. Expected values come from spec/95_test_vectors.md, from the worked examples in the instruction rules and
from the opcode maps of spec/30_encoding.md, none from the model. Then a witness for every obligation that has hypotheses. -/

namespace Sys2Proof.Tests

open Sys2Proof Sys2Proof.Machine Sys2Proof.Safety

/-- The state with code at PC and other bytes placed past the write guard, as the loader places them. -/
def place (code : List Byte) (data : List Host.Cell) (s : State) : State :=
  { s with mem := data.foldl (fun m cell => m.write cell.1 cell.2) (Memory.load s.mem s.pc.toNat code) }

/-- The state after one step of the reference machine, or the same state where there is none. -/
def run (s : State) : State :=
  match step s with
  | .next t => t
  | _ => s

/-- The instruction at the head of a byte sequence. -/
def headOf (bytes : List Byte) : Option Instr :=
  match decode bytes with
  | .ok (i, _) => some i
  | .error _ => none

/-- A row of the primary map, the bytes 0x34 and 0x12 following each opcode byte. -/
def primaryRow (hi : Nat) : List (Option Instr) :=
  (List.range 16).map (fun lo => headOf [BitVec.ofNat 8 (hi * 16 + lo), 0x34, 0x12])

/-- A row of the secondary map. -/
def secondaryRow (hi : Nat) : List (Option Instr) :=
  (List.range 16).map (fun lo => headOf [0xCB, BitVec.ofNat 8 (hi * 16 + lo)])

/-! ### Well-formedness -/

/-- R256: the 0xCB byte is no instruction by itself. -/
theorem test_wf_refuses_prefix : (Instr.prefixCb 0x37).wf = false := by decide

theorem test_wf_accepts_bit : (Instr.bitH 7).wf = true := by decide

/-- The decoder of the reference set never gives the ill-formed instruction, a smaller `IMPL_CB` does (vector M7). -/
theorem test_prefix_decoded_only_when_left_out :
    headOf [0xCB, 0x37] = some .swapA ∧
    decodeWith { leftOutPrimary := [], leftOutCb := [0x37] } [0xCB, 0x37] = .ok (.prefixCb 0x37, []) := by decide

/-- Bytes that are too short are rejected by name. -/
theorem test_decode_rejects_by_name :
    decode [] = .error .noOpcode ∧ decode [0xCB] = .error .noSecondByte ∧
    decode [0x3E] = .error (.missingImmediate 0x3E) ∧
    decodeWith { leftOutPrimary := [0x04], leftOutCb := [] } [0x04] = .error (.notImplemented 0x04) := by decide

/-! ### The opcode table's words -/

/-- Immediates count on from bit 8; a row of the CB page has 0xCB in bits 15..8, as the table writes it. -/
theorem test_table_words :
    decodeTableWord 8 0x78 = some .ldAB ∧ decodeTableWord 8 0x3E = some (.ldAD8 0) ∧
    decodeTableWord 16 0xCB37 = some .swapA ∧ decodeTableWord 16 0xCB7C = some (.bitH 7) ∧
    decodeTableWord 8 0xD3 = some .undefinedD3 ∧ decodeTableWord 8 0x10 = some .stop := by decide

/-- The placed word runs as the first instruction after reset. -/
theorem test_withFetchWord :
    (run (State.reset.withFetchWord 8 0x3C)).a = 1 ∧ (run (State.reset.withFetchWord 16 0xCBC0)).b = 1 := by decide

/-! ### The opcode maps: every cell of R91 and R92, with 0x34 and 0x12 as the bytes that follow -/

theorem test_primary_row_0 : primaryRow 0x0 = [
    .nop, .ldBCD16 0x1234, .ldIndBCA, .incBC, .incB, .decB, .ldBD8 0x34, .rlca, .ldIndA16SP 0x1234, .addHLBC,
    .ldAIndBC, .decBC, .incC, .decC, .ldCD8 0x34, .rrca].map some := by decide

theorem test_primary_row_1 : primaryRow 0x1 = [
    .stop, .ldDED16 0x1234, .ldIndDEA, .incDE, .incD, .decD, .ldDD8 0x34, .rla, .jrE8 0x34, .addHLDE,
    .ldAIndDE, .decDE, .incE, .decE, .ldED8 0x34, .rra].map some := by decide

theorem test_primary_row_2 : primaryRow 0x2 = [
    .jrNZE8 0x34, .ldHLD16 0x1234, .ldIndHLIncA, .incHL, .incH, .decH, .ldHD8 0x34, .daa, .jrZE8 0x34,
    .addHLHL, .ldAIndHLInc, .decHL, .incL, .decL, .ldLD8 0x34, .cpl].map some := by decide

theorem test_primary_row_3 : primaryRow 0x3 = [
    .jrNCE8 0x34, .ldSPD16 0x1234, .ldIndHLDecA, .incSP, .incIndHL, .decIndHL, .ldIndHLD8 0x34, .scf,
    .jrCE8 0x34, .addHLSP, .ldAIndHLDec, .decSP, .incA, .decA, .ldAD8 0x34, .ccf].map some := by decide

theorem test_primary_row_4 : primaryRow 0x4 = [
    .ldBB, .ldBC, .ldBD, .ldBE, .ldBH, .ldBL, .ldBIndHL, .ldBA, .ldCB, .ldCC, .ldCD, .ldCE, .ldCH, .ldCL,
    .ldCIndHL, .ldCA].map some := by decide

theorem test_primary_row_5 : primaryRow 0x5 = [
    .ldDB, .ldDC, .ldDD, .ldDE, .ldDH, .ldDL, .ldDIndHL, .ldDA, .ldEB, .ldEC, .ldED, .ldEE, .ldEH, .ldEL,
    .ldEIndHL, .ldEA].map some := by decide

theorem test_primary_row_6 : primaryRow 0x6 = [
    .ldHB, .ldHC, .ldHD, .ldHE, .ldHH, .ldHL, .ldHIndHL, .ldHA, .ldLB, .ldLC, .ldLD, .ldLE, .ldLH, .ldLL,
    .ldLIndHL, .ldLA].map some := by decide

theorem test_primary_row_7 : primaryRow 0x7 = [
    .ldIndHLB, .ldIndHLC, .ldIndHLD, .ldIndHLE, .ldIndHLH, .ldIndHLL, .halt, .ldIndHLA, .ldAB, .ldAC, .ldAD,
    .ldAE, .ldAH, .ldAL, .ldAIndHL, .ldAA].map some := by decide

theorem test_primary_row_8 : primaryRow 0x8 = [
    .addAB, .addAC, .addAD, .addAE, .addAH, .addAL, .addAIndHL, .addAA, .adcAB, .adcAC, .adcAD, .adcAE, .adcAH,
    .adcAL, .adcAIndHL, .adcAA].map some := by decide

theorem test_primary_row_9 : primaryRow 0x9 = [
    .subB, .subC, .subD, .subE, .subH, .subL, .subIndHL, .subA, .sbcAB, .sbcAC, .sbcAD, .sbcAE, .sbcAH, .sbcAL,
    .sbcAIndHL, .sbcAA].map some := by decide

theorem test_primary_row_A : primaryRow 0xA = [
    .andB, .andC, .andD, .andE, .andH, .andL, .andIndHL, .andA, .xorB, .xorC, .xorD, .xorE, .xorH, .xorL,
    .xorIndHL, .xorA].map some := by decide

theorem test_primary_row_B : primaryRow 0xB = [
    .orB, .orC, .orD, .orE, .orH, .orL, .orIndHL, .orA, .cpB, .cpC, .cpD, .cpE, .cpH, .cpL, .cpIndHL, .cpA].map some := by decide

theorem test_primary_row_C : primaryRow 0xC = [
    .retNZ, .popBC, .jpNZA16 0x1234, .jpA16 0x1234, .callNZA16 0x1234, .pushBC, .addAD8 0x34, .rst00, .retZ,
    .ret, .jpZA16 0x1234, .swapH, .callZA16 0x1234, .callA16 0x1234, .adcAD8 0x34, .rst08].map some := by decide

theorem test_primary_row_D : primaryRow 0xD = [
    .retNC, .popDE, .jpNCA16 0x1234, .undefinedD3, .callNCA16 0x1234, .pushDE, .subD8 0x34, .rst10, .retC,
    .reti, .jpCA16 0x1234, .undefinedDB, .callCA16 0x1234, .undefinedDD, .sbcAD8 0x34, .rst18].map some := by decide

theorem test_primary_row_E : primaryRow 0xE = [
    .ldhIndA8A 0x34, .popHL, .ldIndCA, .undefinedE3, .undefinedE4, .pushHL, .andD8 0x34, .rst20, .addSPE8 0x34,
    .jpHL, .ldIndA16A 0x1234, .undefinedEB, .undefinedEC, .undefinedED, .xorD8 0x34, .rst28].map some := by decide

theorem test_primary_row_F : primaryRow 0xF = [
    .ldhAIndA8 0x34, .popAF, .ldAIndC, .di, .undefinedF4, .pushAF, .orD8 0x34, .rst30, .ldHLSPE8 0x34, .ldSPHL,
    .ldAIndA16 0x1234, .ei, .undefinedFC, .undefinedFD, .cpD8 0x34, .rst38].map some := by decide

theorem test_secondary_row_0 : secondaryRow 0x0 = [
    .rlcB, .rlcC, .rlcD, .rlcE, .rlcH, .rlcL, .rlcIndHL, .rlcA, .rrcB, .rrcC, .rrcD, .rrcE, .rrcH, .rrcL,
    .rrcIndHL, .rrcA].map some := by decide

theorem test_secondary_row_1 : secondaryRow 0x1 = [
    .rlB, .rlC, .rlD, .rlE, .rlH, .rlL, .rlIndHL, .rlA, .rrB, .rrC, .rrD, .rrE, .rrH, .rrL, .rrIndHL, .rrA].map some := by decide

theorem test_secondary_row_2 : secondaryRow 0x2 = [
    .slaB, .slaC, .slaD, .slaE, .slaH, .slaL, .slaIndHL, .slaA, .sraB, .sraC, .sraD, .sraE, .sraH, .sraL,
    .sraIndHL, .sraA].map some := by decide

theorem test_secondary_row_3 : secondaryRow 0x3 = [
    .swapB, .swapC, .swapD, .swapE, .swapH, .swapL, .swapIndHL, .swapA, .srlB, .srlC, .srlD, .srlE, .srlH,
    .srlL, .srlIndHL, .srlA].map some := by decide

theorem test_secondary_row_4 : secondaryRow 0x4 = [
    .bitB 0, .bitC 0, .bitD 0, .bitE 0, .bitH 0, .bitL 0, .bitIndHL 0, .bitA 0, .bitB 1, .bitC 1, .bitD 1,
    .bitE 1, .bitH 1, .bitL 1, .bitIndHL 1, .bitA 1].map some := by decide

theorem test_secondary_row_5 : secondaryRow 0x5 = [
    .bitB 2, .bitC 2, .bitD 2, .bitE 2, .bitH 2, .bitL 2, .bitIndHL 2, .bitA 2, .bitB 3, .bitC 3, .bitD 3,
    .bitE 3, .bitH 3, .bitL 3, .bitIndHL 3, .bitA 3].map some := by decide

theorem test_secondary_row_6 : secondaryRow 0x6 = [
    .bitB 4, .bitC 4, .bitD 4, .bitE 4, .bitH 4, .bitL 4, .bitIndHL 4, .bitA 4, .bitB 5, .bitC 5, .bitD 5,
    .bitE 5, .bitH 5, .bitL 5, .bitIndHL 5, .bitA 5].map some := by decide

theorem test_secondary_row_7 : secondaryRow 0x7 = [
    .bitB 6, .bitC 6, .bitD 6, .bitE 6, .bitH 6, .bitL 6, .bitIndHL 6, .bitA 6, .bitB 7, .bitC 7, .bitD 7,
    .bitE 7, .bitH 7, .bitL 7, .bitIndHL 7, .bitA 7].map some := by decide

theorem test_secondary_row_8 : secondaryRow 0x8 = [
    .resB 0, .resC 0, .resD 0, .resE 0, .resH 0, .resL 0, .resIndHL 0, .resA 0, .resB 1, .resC 1, .resD 1,
    .resE 1, .resH 1, .resL 1, .resIndHL 1, .resA 1].map some := by decide

theorem test_secondary_row_9 : secondaryRow 0x9 = [
    .resB 2, .resC 2, .resD 2, .resE 2, .resH 2, .resL 2, .resIndHL 2, .resA 2, .resB 3, .resC 3, .resD 3,
    .resE 3, .resH 3, .resL 3, .resIndHL 3, .resA 3].map some := by decide

theorem test_secondary_row_A : secondaryRow 0xA = [
    .resB 4, .resC 4, .resD 4, .resE 4, .resH 4, .resL 4, .resIndHL 4, .resA 4, .resB 5, .resC 5, .resD 5,
    .resE 5, .resH 5, .resL 5, .resIndHL 5, .resA 5].map some := by decide

theorem test_secondary_row_B : secondaryRow 0xB = [
    .resB 6, .resC 6, .resD 6, .resE 6, .resH 6, .resL 6, .resIndHL 6, .resA 6, .resB 7, .resC 7, .resD 7,
    .resE 7, .resH 7, .resL 7, .resIndHL 7, .resA 7].map some := by decide

theorem test_secondary_row_C : secondaryRow 0xC = [
    .setB 0, .setC 0, .setD 0, .setE 0, .setH 0, .setL 0, .setIndHL 0, .setA 0, .setB 1, .setC 1, .setD 1,
    .setE 1, .setH 1, .setL 1, .setIndHL 1, .setA 1].map some := by decide

theorem test_secondary_row_D : secondaryRow 0xD = [
    .setB 2, .setC 2, .setD 2, .setE 2, .setH 2, .setL 2, .setIndHL 2, .setA 2, .setB 3, .setC 3, .setD 3,
    .setE 3, .setH 3, .setL 3, .setIndHL 3, .setA 3].map some := by decide

theorem test_secondary_row_E : secondaryRow 0xE = [
    .setB 4, .setC 4, .setD 4, .setE 4, .setH 4, .setL 4, .setIndHL 4, .setA 4, .setB 5, .setC 5, .setD 5,
    .setE 5, .setH 5, .setL 5, .setIndHL 5, .setA 5].map some := by decide

theorem test_secondary_row_F : secondaryRow 0xF = [
    .setB 6, .setC 6, .setD 6, .setE 6, .setH 6, .setL 6, .setIndHL 6, .setA 6, .setB 7, .setC 7, .setD 7,
    .setE 7, .setH 7, .setL 7, .setIndHL 7, .setA 7].map some := by decide

/-! ### Words written out bit by bit from the encodings -/

/-- R101 `01 ddd sss`, A from B. -/
theorem test_word_ld : decode [0b01_111_000] = .ok (.ldAB, []) ∧ encode (.ldAB) = [0b01_111_000] := by decide

/-- R102 `00 ddd 110`, E. -/
theorem test_word_ld_imm : decode [0b00_011_110, 0x80] = .ok (.ldED8 0x80, []) ∧ encode (.ldED8 0x80) = [0b00_011_110, 0x80] := by decide

/-- R130 `00 ss 0001`, SP. -/
theorem test_word_ld_pair : decode [0b00_11_0001, 0xFE, 0xFF] = .ok (.ldSPD16 0xFFFE, []) ∧ encode (.ldSPD16 0xFFFE) = [0b00_11_0001, 0xFE, 0xFF] := by decide

/-- R134 `11 qq 0101`, AF. -/
theorem test_word_push : decode [0b11_11_0101] = .ok (.pushAF, []) ∧ encode (.pushAF) = [0b11_11_0101] := by decide

/-- R135 `11 qq 0001`, DE. -/
theorem test_word_pop : decode [0b11_01_0001] = .ok (.popDE, []) ∧ encode (.popDE) = [0b11_01_0001] := by decide

/-- R162 `10 011 sss`, H. -/
theorem test_word_alu : decode [0b10_011_100] = .ok (.sbcAH, []) ∧ encode (.sbcAH) = [0b10_011_100] := by decide

/-- R89 `aaa` = 7, CP, in `11 aaa 110`. -/
theorem test_word_alu_imm : decode [0b11_111_110, 0x3C] = .ok (.cpD8 0x3C, []) ∧ encode (.cpD8 0x3C) = [0b11_111_110, 0x3C] := by decide

/-- R177 `00 ddd 100`, L. -/
theorem test_word_inc : decode [0b00_101_100] = .ok (.incL, []) ∧ encode (.incL) = [0b00_101_100] := by decide

/-- R179 `00 ddd 101`, C. -/
theorem test_word_dec : decode [0b00_001_101] = .ok (.decC, []) ∧ encode (.decC) = [0b00_001_101] := by decide

/-- R192 `00 ss 1001`, HL. -/
theorem test_word_add_hl : decode [0b00_10_1001] = .ok (.addHLHL, []) ∧ encode (.addHLHL) = [0b00_10_1001] := by decide

/-- R190 `00 ss 0011`, DE. -/
theorem test_word_inc_pair : decode [0b00_01_0011] = .ok (.incDE, []) ∧ encode (.incDE) = [0b00_01_0011] := by decide

/-- R217 `CB 00 110 rrr`, A. -/
theorem test_word_rotate : decode [0xCB, 0b00_110_111] = .ok (.swapA, []) ∧ encode (.swapA) = [0xCB, 0b00_110_111] := by decide

/-- R221 `CB 01 bbb rrr`, bit 7 of H. -/
theorem test_word_bit : decode [0xCB, 0b01_111_100] = .ok (.bitH 7, []) ∧ encode (.bitH 7) = [0xCB, 0b01_111_100] := by decide

/-- R224 `CB 10 bbb 110`, bit 3. -/
theorem test_word_res : decode [0xCB, 0b10_011_110] = .ok (.resIndHL 3, []) ∧ encode (.resIndHL 3) = [0xCB, 0b10_011_110] := by decide

/-- R225 `CB 11 bbb rrr`, bit 3 of A. -/
theorem test_word_set : decode [0xCB, 0b11_011_111] = .ok (.setA 3, []) ∧ encode (.setA 3) = [0xCB, 0b11_011_111] := by decide

/-- R235 `001 cc 000`, NC. -/
theorem test_word_jr : decode [0b001_10_000, 0xFB] = .ok (.jrNCE8 0xFB, []) ∧ encode (.jrNCE8 0xFB) = [0b001_10_000, 0xFB] := by decide

/-- R232 `110 cc 010`, C. -/
theorem test_word_jp : decode [0b110_11_010, 0x34, 0x12] = .ok (.jpCA16 0x1234, []) ∧ encode (.jpCA16 0x1234) = [0b110_11_010, 0x34, 0x12] := by decide

/-- R237 `110 cc 100`, Z. -/
theorem test_word_call : decode [0b110_01_100, 0x34, 0x12] = .ok (.callZA16 0x1234, []) ∧ encode (.callZA16 0x1234) = [0b110_01_100, 0x34, 0x12] := by decide

/-- R239 `110 cc 000`, NZ. -/
theorem test_word_ret : decode [0b110_00_000] = .ok (.retNZ, []) ∧ encode (.retNZ) = [0b110_00_000] := by decide

/-- R241 `11 ttt 111`, 5. -/
theorem test_word_rst : decode [0b11_101_111] = .ok (.rst28, []) ∧ encode (.rst28) = [0b11_101_111] := by decide

/-! ### One-step vectors: the tables of spec/95_test_vectors.md and the examples in the instruction rules -/

/-- R101. -/
theorem test_vector_L1 :
    let t := run (place [0x41] [] { State.reset with pc := 0xC000, c := 0x5A })
    (t.b, t.f, t.pc, t.cycles) = (0x5A, 0x00, 0xC001, 4) := by decide

/-- R102. -/
theorem test_vector_L2 :
    let t := run (place [0x1E, 0x80] [] { State.reset with pc := 0xC000 })
    (t.e, t.f, t.pc, t.cycles) = (0x80, 0x00, 0xC002, 8) := by decide

/-- R100, R103. -/
theorem test_vector_L3 :
    let t := run (place [0x7E] [(0xC100, 0x99)] { State.reset with pc := 0xC000, f := 0xF0, h := 0xC1, l := 0x00 })
    (t.a, t.f, t.pc, t.cycles) = (0x99, 0xF0, 0xC001, 8) := by decide

/-- R53, R105. -/
theorem test_vector_L4 :
    let t := run (place [0x36, 0x99] [] { State.reset with pc := 0xC000, h := 0x40, l := 0x00 })
    (read8 0x4000 t, t.f, t.pc, t.cycles) = (0x00, 0x00, 0xC002, 12) := by decide

/-- R105. -/
theorem test_vector_L5 :
    let t := run (place [0x36, 0x99] [] { State.reset with pc := 0xC000, h := 0xC1, l := 0x00 })
    (read8 0xC100 t, t.f, t.pc, t.cycles) = (0x99, 0x00, 0xC002, 12) := by decide

/-- R106. -/
theorem test_vector_L6 :
    let t := run (place [0x0A] [(0x8000, 0xAB)] { State.reset with pc := 0xC000, b := 0x80, c := 0x00 })
    (t.a, t.f, t.pc, t.cycles) = (0xAB, 0x00, 0xC001, 8) := by decide

/-- R53, R109. -/
theorem test_vector_L7 :
    let t := run (place [0x12] [] { State.reset with pc := 0xC000, d := 0x7F, e := 0xFF, a := 0x42 })
    (read8 0x7FFF t, t.f, t.pc, t.cycles) = (0x00, 0x00, 0xC001, 8) := by decide

/-- R53, R111. -/
theorem test_vector_L8 :
    let t := run (place [0xEA, 0x00, 0x20] [] { State.reset with pc := 0xC000, a := 0x42 })
    (read8 0x2000 t, t.f, t.pc, t.cycles) = (0x00, 0x00, 0xC003, 16) := by decide

/-- R113. -/
theorem test_vector_L10 :
    let t := run (place [0xE0, 0x42] [] { State.reset with pc := 0xC000, a := 0x07 })
    (read8 0xFF42 t, t.f, t.pc, t.cycles) = (0x07, 0x00, 0xC002, 12) := by decide

/-- R112. -/
theorem test_vector_L11 :
    let t := run (place [0xF0, 0x44] [(0xFF44, 0x90)] { State.reset with pc := 0xC000 })
    (t.a, t.f, t.pc, t.cycles) = (0x90, 0x00, 0xC002, 12) := by decide

/-- R115. -/
theorem test_vector_L12 :
    let t := run (place [0xE2] [] { State.reset with pc := 0xC000, c := 0x43, a := 0x3C })
    (read8 0xFF43 t, t.f, t.pc, t.cycles) = (0x3C, 0x00, 0xC001, 8) := by decide

/-- R114. -/
theorem test_vector_L13 :
    let t := run (place [0xF2] [(0xFF80, 0x77)] { State.reset with pc := 0xC000, c := 0x80 })
    (t.a, t.f, t.pc, t.cycles) = (0x77, 0x00, 0xC001, 8) := by decide

/-- R116. -/
theorem test_vector_L14 :
    let t := run (place [0x22] [] { State.reset with pc := 0xC000, h := 0xFF, l := 0xFF, a := 0x12 })
    (read8 0xFFFF t, t.h, t.l, t.f, t.pc, t.cycles) = (0x12, 0x00, 0x00, 0x00, 0xC001, 8) := by decide

/-- R119. -/
theorem test_vector_L15 :
    let t := run (place [0x3A] [(0x0000, 0x31)] { State.reset with pc := 0xC000, h := 0x00, l := 0x00 })
    (t.a, t.h, t.l, t.f, t.pc, t.cycles) = (0x31, 0xFF, 0xFF, 0x00, 0xC001, 8) := by decide

/-- R103: HL is read before L is written. -/
theorem test_vector_R103_low_half :
    let t := run (place [0x6E] [(0xC100, 0x9A)] { State.reset with pc := 0xC000, h := 0xC1, l := 0x00 })
    (t.h, t.l, t.f, t.pc, t.cycles) = (0xC1, 0x9A, 0x00, 0xC001, 8) := by decide

/-- R104: `LD (HL),H` stores the high byte of the address. -/
theorem test_vector_R104_high_half :
    let t := run (place [0x74] [] { State.reset with pc := 0xC000, h := 0xC1, l := 0x00 })
    (read8 0xC100 t, t.f, t.pc, t.cycles) = (0xC1, 0x00, 0xC001, 8) := by decide

/-- R107. -/
theorem test_vector_R107 :
    let t := run (place [0x1A] [(0x8010, 0x3C)] { State.reset with pc := 0xC000, d := 0x80, e := 0x10 })
    (t.a, t.f, t.pc, t.cycles) = (0x3C, 0x00, 0xC001, 8) := by decide

/-- R108. -/
theorem test_vector_R108 :
    let t := run (place [0x02] [] { State.reset with pc := 0xC000, b := 0xC1, a := 0x07 })
    (read8 0xC100 t, t.f, t.pc, t.cycles) = (0x07, 0x00, 0xC001, 8) := by decide

/-- R110. -/
theorem test_vector_R110 :
    let t := run (place [0xFA, 0x44, 0xFF] [(0xFF44, 0x90)] { State.reset with pc := 0xC000 })
    (t.a, t.f, t.pc, t.cycles) = (0x90, 0x00, 0xC003, 16) := by decide

/-- R111. -/
theorem test_vector_R111 :
    let t := run (place [0xEA, 0x00, 0xC1] [] { State.reset with pc := 0xC000, a := 0x11 })
    (read8 0xC100 t, t.f, t.pc, t.cycles) = (0x11, 0x00, 0xC003, 16) := by decide

/-- R117. -/
theorem test_vector_R117 :
    let t := run (place [0x32] [] { State.reset with pc := 0xC000, h := 0x80, l := 0x00, a := 0x42 })
    (read8 0x8000 t, t.h, t.l, t.f, t.pc, t.cycles) = (0x42, 0x7F, 0xFF, 0x00, 0xC001, 8) := by decide

/-- R118. -/
theorem test_vector_R118 :
    let t := run (place [0x2A] [(0x0104, 0xCE)] { State.reset with pc := 0xC000, h := 0x01, l := 0x04 })
    (t.a, t.h, t.l, t.f, t.pc, t.cycles) = (0xCE, 0x01, 0x05, 0x00, 0xC001, 8) := by decide

/-- R54, R131. -/
theorem test_vector_W1 :
    let t := run (place [0x08, 0xFF, 0x7F] [] { State.reset with pc := 0xC000, sp := 0xABCD })
    (read8 0x7FFF t, read8 0x8000 t, t.f, t.pc, t.cycles) = (0x00, 0xAB, 0x00, 0xC003, 20) := by decide

/-- R54, R57, R131. -/
theorem test_vector_W2 :
    let t := run (place [0x08, 0xFF, 0xFF] [] { State.reset with pc := 0xC000, sp := 0xABCD })
    (read8 0xFFFF t, read8 0x0000 t, t.f, t.pc, t.cycles) = (0xCD, 0x00, 0x00, 0xC003, 20) := by decide

/-- R133. -/
theorem test_vector_W3 :
    let t := run (place [0xF8, 0xFF] [] { State.reset with pc := 0xC000, sp := 0x0000 })
    (t.h, t.l, t.f, t.pc, t.cycles) = (0xFF, 0xFF, 0x00, 0xC002, 12) := by decide

/-- R133. -/
theorem test_vector_W4 :
    let t := run (place [0xF8, 0x01] [] { State.reset with pc := 0xC000, sp := 0x00FF })
    (t.h, t.l, t.f, t.pc, t.cycles) = (0x01, 0x00, 0x30, 0xC002, 12) := by decide

/-- R60, R134. -/
theorem test_vector_W5 :
    let t := run (place [0xF5] [] { State.reset with pc := 0xC000, f := 0xB0, a := 0x12, sp := 0xD000 })
    (t.sp, read8 0xCFFE t, read8 0xCFFF t, t.f, t.pc, t.cycles) = (0xCFFE, 0xB0, 0x12, 0xB0, 0xC001, 16) := by decide

/-- R54, R60, R134. -/
theorem test_vector_W6 :
    let t := run (place [0xD5] [] { State.reset with pc := 0xC000, d := 0xBE, e := 0xEF, sp := 0x0001 })
    (t.sp, read8 0xFFFF t, read8 0x0000 t, t.f, t.pc, t.cycles) = (0xFFFF, 0xEF, 0x00, 0x00, 0xC001, 16) := by decide

/-- R61, R135. -/
theorem test_vector_W7 :
    let t := run (place [0xE1] [(0xFFFF, 0x34), (0x0000, 0x12)] { State.reset with pc := 0xC000, sp := 0xFFFF })
    (t.h, t.l, t.sp, t.f, t.pc, t.cycles) = (0x12, 0x34, 0x0001, 0x00, 0xC001, 12) := by decide

/-- R25, R136. -/
theorem test_vector_W8 :
    let t := run (place [0xF1] [(0xD000, 0x3F), (0xD001, 0x99)] { State.reset with pc := 0xC000, sp := 0xD000 })
    (t.a, t.sp, t.f, t.pc, t.cycles) = (0x99, 0xD002, 0x30, 0xC001, 12) := by decide

/-- R132. -/
theorem test_vector_W9 :
    let t := run (place [0xF9] [] { State.reset with pc := 0xC000, h := 0x12, l := 0x34 })
    (t.sp, t.f, t.pc, t.cycles) = (0x1234, 0x00, 0xC001, 8) := by decide

/-- R130. -/
theorem test_vector_W10 :
    let t := run (place [0x01, 0x34, 0x12] [] { State.reset with pc := 0xC000 })
    (t.b, t.c, t.f, t.pc, t.cycles) = (0x12, 0x34, 0x00, 0xC003, 12) := by decide

/-- R150 to R176. -/
theorem test_vector_A1 :
    let t := run (place [0xC6, 0x01] [] { State.reset with pc := 0xC000, a := 0x0F })
    (t.a, t.f, t.pc, t.cycles) = (0x10, 0x20, 0xC002, 8) := by decide

/-- R150 to R176. -/
theorem test_vector_A2 :
    let t := run (place [0xC6, 0x80] [] { State.reset with pc := 0xC000, a := 0x80 })
    (t.a, t.f, t.pc, t.cycles) = (0x00, 0x90, 0xC002, 8) := by decide

/-- R150 to R176. -/
theorem test_vector_A3 :
    let t := run (place [0xC6, 0x01] [] { State.reset with pc := 0xC000, a := 0xFF })
    (t.a, t.f, t.pc, t.cycles) = (0x00, 0xB0, 0xC002, 8) := by decide

/-- R150 to R176. -/
theorem test_vector_A4 :
    let t := run (place [0xCE, 0x00] [] { State.reset with pc := 0xC000, f := 0x10, a := 0x0F })
    (t.a, t.f, t.pc, t.cycles) = (0x10, 0x20, 0xC002, 8) := by decide

/-- R150 to R176. -/
theorem test_vector_A5 :
    let t := run (place [0xCE, 0x00] [] { State.reset with pc := 0xC000, f := 0x10, a := 0xFF })
    (t.a, t.f, t.pc, t.cycles) = (0x00, 0xB0, 0xC002, 8) := by decide

/-- R150 to R176. -/
theorem test_vector_A6 :
    let t := run (place [0xD6, 0x01] [] { State.reset with pc := 0xC000, a := 0x10 })
    (t.a, t.f, t.pc, t.cycles) = (0x0F, 0x60, 0xC002, 8) := by decide

/-- R150 to R176. -/
theorem test_vector_A7 :
    let t := run (place [0xD6, 0x01] [] { State.reset with pc := 0xC000, a := 0x00 })
    (t.a, t.f, t.pc, t.cycles) = (0xFF, 0x70, 0xC002, 8) := by decide

/-- R150 to R176. -/
theorem test_vector_A9 :
    let t := run (place [0xDE, 0x00] [] { State.reset with pc := 0xC000, f := 0x10, a := 0x10 })
    (t.a, t.f, t.pc, t.cycles) = (0x0F, 0x60, 0xC002, 8) := by decide

/-- R150 to R176. -/
theorem test_vector_A10 :
    let t := run (place [0xDE, 0xFF] [] { State.reset with pc := 0xC000, f := 0x10, a := 0x00 })
    (t.a, t.f, t.pc, t.cycles) = (0x00, 0xF0, 0xC002, 8) := by decide

/-- R150 to R176. -/
theorem test_vector_A11 :
    let t := run (place [0xFE, 0x40] [] { State.reset with pc := 0xC000, a := 0x3C })
    (t.a, t.f, t.pc, t.cycles) = (0x3C, 0x50, 0xC002, 8) := by decide

/-- R150 to R176. -/
theorem test_vector_A12 :
    let t := run (place [0xE6, 0x0F] [] { State.reset with pc := 0xC000, a := 0xF0 })
    (t.a, t.f, t.pc, t.cycles) = (0x00, 0xA0, 0xC002, 8) := by decide

/-- R150 to R176. -/
theorem test_vector_A13 :
    let t := run (place [0xEE, 0xAA] [] { State.reset with pc := 0xC000, a := 0x55 })
    (t.a, t.f, t.pc, t.cycles) = (0xFF, 0x00, 0xC002, 8) := by decide

/-- R150 to R176. -/
theorem test_vector_A14 :
    let t := run (place [0xF6, 0x00] [] { State.reset with pc := 0xC000, f := 0x70, a := 0x00 })
    (t.a, t.f, t.pc, t.cycles) = (0x00, 0x80, 0xC002, 8) := by decide

/-- R159. -/
theorem test_vector_A8 :
    let t := run (place [0x97] [] { State.reset with pc := 0xC000, a := 0x42 })
    (t.a, t.f, t.pc, t.cycles) = (0x00, 0xC0, 0xC001, 4) := by decide

/-- R153. -/
theorem test_vector_R153 :
    let t := run (place [0x80] [] { State.reset with pc := 0xC000, a := 0x3A, b := 0xC6 })
    (t.a, t.f, t.pc, t.cycles) = (0x00, 0xB0, 0xC001, 4) := by decide

/-- R154. -/
theorem test_vector_R154 :
    let t := run (place [0x86] [(0xC100, 0x12)] { State.reset with pc := 0xC000, h := 0xC1, l := 0x00, a := 0x3C })
    (t.a, t.f, t.pc, t.cycles) = (0x4E, 0x00, 0xC001, 8) := by decide

/-- R156. -/
theorem test_vector_R156 :
    let t := run (place [0x8B] [] { State.reset with pc := 0xC000, f := 0x10, a := 0xE1, e := 0x0F })
    (t.a, t.f, t.pc, t.cycles) = (0xF1, 0x20, 0xC001, 4) := by decide

/-- R157. -/
theorem test_vector_R157 :
    let t := run (place [0x8E] [(0xC100, 0x1E)]
      { State.reset with pc := 0xC000, f := 0x10, h := 0xC1, l := 0x00, a := 0xE1 })
    (t.a, t.f, t.pc, t.cycles) = (0x00, 0xB0, 0xC001, 8) := by decide

/-- R160. -/
theorem test_vector_R160 :
    let t := run (place [0x96] [(0xC100, 0x40)] { State.reset with pc := 0xC000, h := 0xC1, l := 0x00, a := 0x3E })
    (t.a, t.f, t.pc, t.cycles) = (0xFE, 0x50, 0xC001, 8) := by decide

/-- R162. -/
theorem test_vector_R162 :
    let t := run (place [0x9C] [] { State.reset with pc := 0xC000, f := 0x10, a := 0x3B, h := 0x2A })
    (t.a, t.f, t.pc, t.cycles) = (0x10, 0x40, 0xC001, 4) := by decide

/-- R163. -/
theorem test_vector_R163 :
    let t := run (place [0x9E] [(0xC100, 0x4F)]
      { State.reset with pc := 0xC000, f := 0x10, h := 0xC1, l := 0x00, a := 0x3B })
    (t.a, t.f, t.pc, t.cycles) = (0xEB, 0x70, 0xC001, 8) := by decide

/-- R165. -/
theorem test_vector_R165 :
    let t := run (place [0xA5] [] { State.reset with pc := 0xC000, a := 0x5A, l := 0x3F })
    (t.a, t.f, t.pc, t.cycles) = (0x1A, 0x20, 0xC001, 4) := by decide

/-- R168. -/
theorem test_vector_R168 :
    let t := run (place [0xAF] [] { State.reset with pc := 0xC000, a := 0xFF })
    (t.a, t.f, t.pc, t.cycles) = (0x00, 0x80, 0xC001, 4) := by decide

/-- R169. -/
theorem test_vector_R169 :
    let t := run (place [0xAE] [(0xC100, 0x8A)] { State.reset with pc := 0xC000, h := 0xC1, l := 0x00, a := 0xFF })
    (t.a, t.f, t.pc, t.cycles) = (0x75, 0x00, 0xC001, 8) := by decide

/-- R172. -/
theorem test_vector_R172 :
    let t := run (place [0xB6] [(0xC100, 0x0F)] { State.reset with pc := 0xC000, h := 0xC1, l := 0x00, a := 0x5A })
    (t.a, t.f, t.pc, t.cycles) = (0x5F, 0x00, 0xC001, 8) := by decide

/-- R174. -/
theorem test_vector_R174 :
    let t := run (place [0xB8] [] { State.reset with pc := 0xC000, a := 0x3C, b := 0x2F })
    (t.a, t.f, t.pc, t.cycles) = (0x3C, 0x60, 0xC001, 4) := by decide

/-- R175. -/
theorem test_vector_R175 :
    let t := run (place [0xBE] [(0xC100, 0x40)] { State.reset with pc := 0xC000, h := 0xC1, l := 0x00, a := 0x3C })
    (t.a, t.f, t.pc, t.cycles) = (0x3C, 0x50, 0xC001, 8) := by decide

/-- R177. -/
theorem test_vector_A15 :
    let t := run (place [0x3C] [] { State.reset with pc := 0xC000, f := 0x10, a := 0x0F })
    (t.a, t.f, t.pc, t.cycles) = (0x10, 0x30, 0xC001, 4) := by decide

/-- R177. -/
theorem test_vector_A16 :
    let t := run (place [0x04] [] { State.reset with pc := 0xC000, b := 0xFF })
    (t.b, t.f, t.pc, t.cycles) = (0x00, 0xA0, 0xC001, 4) := by decide

/-- R179. -/
theorem test_vector_A17 :
    let t := run (place [0x3D] [] { State.reset with pc := 0xC000, f := 0x10, a := 0x10 })
    (t.a, t.f, t.pc, t.cycles) = (0x0F, 0x70, 0xC001, 4) := by decide

/-- R179. -/
theorem test_vector_A18 :
    let t := run (place [0x3D] [] { State.reset with pc := 0xC000, a := 0x01 })
    (t.a, t.f, t.pc, t.cycles) = (0x00, 0xC0, 0xC001, 4) := by decide

/-- R178. -/
theorem test_vector_A19 :
    let t := run (place [0x34] [(0xC100, 0xFF)] { State.reset with pc := 0xC000, h := 0xC1, l := 0x00 })
    (read8 0xC100 t, t.f, t.pc, t.cycles) = (0x00, 0xA0, 0xC001, 12) := by decide

/-- R53, R180. -/
theorem test_vector_A20 :
    let t := run (place [0x35] [(0x0100, 0x01)] { State.reset with pc := 0xC000, h := 0x01, l := 0x00 })
    (read8 0x0100 t, t.f, t.pc, t.cycles) = (0x01, 0xC0, 0xC001, 12) := by decide

/-- R181. -/
theorem test_vector_A21 :
    let t := run (place [0x27] [] { State.reset with pc := 0xC000, a := 0x7D })
    (t.a, t.f, t.pc, t.cycles) = (0x83, 0x00, 0xC001, 4) := by decide

/-- R181. -/
theorem test_vector_A22 :
    let t := run (place [0x27] [] { State.reset with pc := 0xC000, a := 0x9A })
    (t.a, t.f, t.pc, t.cycles) = (0x00, 0x90, 0xC001, 4) := by decide

/-- R181, the DAA after `SUB 0x38`. -/
theorem test_vector_A24_second :
    let t := run (place [0x27] [] { State.reset with pc := 0xC000, f := 0x60, a := 0x4B })
    (t.a, t.f, t.pc, t.cycles) = (0x45, 0x40, 0xC001, 4) := by decide

/-- R181, the DAA after `SUB 1` of zero. -/
theorem test_vector_A26_second :
    let t := run (place [0x27] [] { State.reset with pc := 0xC000, f := 0x70, a := 0xFF })
    (t.a, t.f, t.pc, t.cycles) = (0x99, 0x50, 0xC001, 4) := by decide

/-- R182. -/
theorem test_vector_A27 :
    let t := run (place [0x2F] [] { State.reset with pc := 0xC000, f := 0x90, a := 0x00 })
    (t.a, t.f, t.pc, t.cycles) = (0xFF, 0xF0, 0xC001, 4) := by decide

/-- R183. -/
theorem test_vector_A28 :
    let t := run (place [0x37] [] { State.reset with pc := 0xC000, f := 0xE0 })
    (t.f, t.pc, t.cycles) = (0x90, 0xC001, 4) := by decide

/-- R184. -/
theorem test_vector_A29 :
    let t := run (place [0x3F] [] { State.reset with pc := 0xC000, f := 0x60 })
    (t.f, t.pc, t.cycles) = (0x10, 0xC001, 4) := by decide

/-- R190. -/
theorem test_vector_X1 :
    let t := run (place [0x33] [] { State.reset with pc := 0xC000, sp := 0xFFFF })
    (t.sp, t.f, t.pc, t.cycles) = (0x0000, 0x00, 0xC001, 8) := by decide

/-- R191. -/
theorem test_vector_X2 :
    let t := run (place [0x0B] [] { State.reset with pc := 0xC000, f := 0x80, b := 0x00 })
    (t.b, t.c, t.f, t.pc, t.cycles) = (0xFF, 0xFF, 0x80, 0xC001, 8) := by decide

/-- R192. -/
theorem test_vector_X3 :
    let t := run (place [0x19] []
      { State.reset with pc := 0xC000, f := 0x80, h := 0x0F, l := 0xFF, d := 0x00, e := 0x01 })
    (t.h, t.l, t.f, t.pc, t.cycles) = (0x10, 0x00, 0xA0, 0xC001, 8) := by decide

/-- R192. -/
theorem test_vector_X4 :
    let t := run (place [0x39] [] { State.reset with pc := 0xC000, h := 0xFF, l := 0xFF, sp := 0x0001 })
    (t.h, t.l, t.f, t.pc, t.cycles) = (0x00, 0x00, 0x30, 0xC001, 8) := by decide

/-- R193. -/
theorem test_vector_X5 :
    let t := run (place [0xE8, 0xFF] [] { State.reset with pc := 0xC000, sp := 0x0000 })
    (t.sp, t.f, t.pc, t.cycles) = (0xFFFF, 0x00, 0xC002, 16) := by decide

/-- R193. -/
theorem test_vector_X7 :
    let t := run (place [0xE8, 0x7F] [] { State.reset with pc := 0xC000, sp := 0xFF81 })
    (t.sp, t.f, t.pc, t.cycles) = (0x0000, 0x30, 0xC002, 16) := by decide

/-- R200. -/
theorem test_vector_B1 :
    let t := run (place [0x07] [] { State.reset with pc := 0xC000, a := 0x80 })
    (t.a, t.f, t.pc, t.cycles) = (0x01, 0x10, 0xC001, 4) := by decide

/-- R200. -/
theorem test_vector_B2 :
    let t := run (place [0x07] [] { State.reset with pc := 0xC000, f := 0x80, a := 0x00 })
    (t.a, t.f, t.pc, t.cycles) = (0x00, 0x00, 0xC001, 4) := by decide

/-- R201. -/
theorem test_vector_B3 :
    let t := run (place [0x0F] [] { State.reset with pc := 0xC000, a := 0x01 })
    (t.a, t.f, t.pc, t.cycles) = (0x80, 0x10, 0xC001, 4) := by decide

/-- R202. -/
theorem test_vector_B4 :
    let t := run (place [0x17] [] { State.reset with pc := 0xC000, a := 0x80 })
    (t.a, t.f, t.pc, t.cycles) = (0x00, 0x10, 0xC001, 4) := by decide

/-- R203. -/
theorem test_vector_B5 :
    let t := run (place [0x1F] [] { State.reset with pc := 0xC000, f := 0x10, a := 0x01 })
    (t.a, t.f, t.pc, t.cycles) = (0x80, 0x10, 0xC001, 4) := by decide

/-- R205. -/
theorem test_vector_B6 :
    let t := run (place [0xCB, 0x00] [] { State.reset with pc := 0xC000, b := 0x00 })
    (t.b, t.f, t.pc, t.cycles) = (0x00, 0x80, 0xC002, 8) := by decide

/-- R207. -/
theorem test_vector_B7 :
    let t := run (place [0xCB, 0x09] [] { State.reset with pc := 0xC000, c := 0x01 })
    (t.c, t.f, t.pc, t.cycles) = (0x80, 0x10, 0xC002, 8) := by decide

/-- R209. -/
theorem test_vector_B8 :
    let t := run (place [0xCB, 0x12] [] { State.reset with pc := 0xC000, d := 0x80 })
    (t.d, t.f, t.pc, t.cycles) = (0x00, 0x90, 0xC002, 8) := by decide

/-- R211. -/
theorem test_vector_B9 :
    let t := run (place [0xCB, 0x1B] [] { State.reset with pc := 0xC000, e := 0x01 })
    (t.e, t.f, t.pc, t.cycles) = (0x00, 0x90, 0xC002, 8) := by decide

/-- R213. -/
theorem test_vector_B10 :
    let t := run (place [0xCB, 0x24] [] { State.reset with pc := 0xC000, h := 0x81 })
    (t.h, t.f, t.pc, t.cycles) = (0x02, 0x10, 0xC002, 8) := by decide

/-- R215. -/
theorem test_vector_B11 :
    let t := run (place [0xCB, 0x2D] [] { State.reset with pc := 0xC000, l := 0x81 })
    (t.l, t.f, t.pc, t.cycles) = (0xC0, 0x10, 0xC002, 8) := by decide

/-- R217. -/
theorem test_vector_B12 :
    let t := run (place [0xCB, 0x37] [] { State.reset with pc := 0xC000, f := 0x10, a := 0xF0 })
    (t.a, t.f, t.pc, t.cycles) = (0x0F, 0x00, 0xC002, 8) := by decide

/-- R219. -/
theorem test_vector_B13 :
    let t := run (place [0xCB, 0x3F] [] { State.reset with pc := 0xC000, a := 0x01 })
    (t.a, t.f, t.pc, t.cycles) = (0x00, 0x90, 0xC002, 8) := by decide

/-- R204, R206. -/
theorem test_vector_B14 :
    let t := run (place [0xCB, 0x06] [(0x0200, 0x80)] { State.reset with pc := 0xC000, h := 0x02, l := 0x00 })
    (read8 0x0200 t, t.f, t.pc, t.cycles) = (0x80, 0x10, 0xC002, 16) := by decide

/-- R208. -/
theorem test_vector_R208 :
    let t := run (place [0xCB, 0x0E] [(0xC100, 0x01)] { State.reset with pc := 0xC000, h := 0xC1, l := 0x00 })
    (read8 0xC100 t, t.f, t.pc, t.cycles) = (0x80, 0x10, 0xC002, 16) := by decide

/-- R210. -/
theorem test_vector_R210 :
    let t := run (place [0xCB, 0x16] [(0xC100, 0x11)]
      { State.reset with pc := 0xC000, f := 0x10, h := 0xC1, l := 0x00 })
    (read8 0xC100 t, t.f, t.pc, t.cycles) = (0x23, 0x00, 0xC002, 16) := by decide

/-- R212. -/
theorem test_vector_R212 :
    let t := run (place [0xCB, 0x1E] [(0xC100, 0x8A)] { State.reset with pc := 0xC000, h := 0xC1, l := 0x00 })
    (read8 0xC100 t, t.f, t.pc, t.cycles) = (0x45, 0x00, 0xC002, 16) := by decide

/-- R214. -/
theorem test_vector_R214 :
    let t := run (place [0xCB, 0x26] [(0xC100, 0xFF)] { State.reset with pc := 0xC000, h := 0xC1, l := 0x00 })
    (read8 0xC100 t, t.f, t.pc, t.cycles) = (0xFE, 0x10, 0xC002, 16) := by decide

/-- R216. -/
theorem test_vector_R216 :
    let t := run (place [0xCB, 0x2E] [(0xC100, 0x01)] { State.reset with pc := 0xC000, h := 0xC1, l := 0x00 })
    (read8 0xC100 t, t.f, t.pc, t.cycles) = (0x00, 0x90, 0xC002, 16) := by decide

/-- R218. -/
theorem test_vector_R218 :
    let t := run (place [0xCB, 0x36] [(0xC100, 0x00)] { State.reset with pc := 0xC000, h := 0xC1, l := 0x00 })
    (read8 0xC100 t, t.f, t.pc, t.cycles) = (0x00, 0x80, 0xC002, 16) := by decide

/-- R220. -/
theorem test_vector_R220 :
    let t := run (place [0xCB, 0x3E] [(0xC100, 0xFF)] { State.reset with pc := 0xC000, h := 0xC1, l := 0x00 })
    (read8 0xC100 t, t.f, t.pc, t.cycles) = (0x7F, 0x10, 0xC002, 16) := by decide

/-- R221. -/
theorem test_vector_B15 :
    let t := run (place [0xCB, 0x7C] [] { State.reset with pc := 0xC000, f := 0x10, h := 0x80 })
    (t.h, t.f, t.pc, t.cycles) = (0x80, 0x30, 0xC002, 8) := by decide

/-- R221. -/
theorem test_vector_B16 :
    let t := run (place [0xCB, 0x47] [] { State.reset with pc := 0xC000, a := 0x00 })
    (t.f, t.pc, t.cycles) = (0xA0, 0xC002, 8) := by decide

/-- R222. -/
theorem test_vector_B17 :
    let t := run (place [0xCB, 0x5E] [(0xC100, 0x08)] { State.reset with pc := 0xC000, h := 0xC1, l := 0x00 })
    (read8 0xC100 t, t.f, t.pc, t.cycles) = (0x08, 0x20, 0xC002, 12) := by decide

/-- R223. -/
theorem test_vector_B18 :
    let t := run (place [0xCB, 0xBF] [] { State.reset with pc := 0xC000, a := 0xFF })
    (t.a, t.f, t.pc, t.cycles) = (0x7F, 0x00, 0xC002, 8) := by decide

/-- R224. -/
theorem test_vector_B19 :
    let t := run (place [0xCB, 0x86] [(0xC100, 0xFF)] { State.reset with pc := 0xC000, h := 0xC1, l := 0x00 })
    (read8 0xC100 t, t.f, t.pc, t.cycles) = (0xFE, 0x00, 0xC002, 16) := by decide

/-- R225. -/
theorem test_vector_B20 :
    let t := run (place [0xCB, 0xC0] [] { State.reset with pc := 0xC000, b := 0x00 })
    (t.b, t.f, t.pc, t.cycles) = (0x01, 0x00, 0xC002, 8) := by decide

/-- R226. -/
theorem test_vector_B21 :
    let t := run (place [0xCB, 0xFE] [] { State.reset with pc := 0xC000, h := 0xC1, l := 0x00 })
    (read8 0xC100 t, t.f, t.pc, t.cycles) = (0x80, 0x00, 0xC002, 16) := by decide

/-- R230, R232. -/
theorem test_vector_J1 :
    let t := run (place [0xDA, 0x00, 0x90] [] { State.reset with pc := 0xC000, f := 0x10 })
    (t.f, t.pc, t.cycles) = (0x10, 0x9000, 16) := by decide

/-- R232. -/
theorem test_vector_J2 :
    let t := run (place [0xD2, 0x00, 0x90] [] { State.reset with pc := 0xC000, f := 0x10 })
    (t.f, t.pc, t.cycles) = (0x10, 0xC003, 12) := by decide

/-- R233. -/
theorem test_vector_J3 :
    let t := run (place [0xE9] [] { State.reset with pc := 0xC000, h := 0xFF, l := 0xFF })
    (t.f, t.pc, t.cycles) = (0x00, 0xFFFF, 4) := by decide

/-- R234. -/
theorem test_vector_J4 :
    let t := run (place [0x18, 0x7F] [] { State.reset with pc := 0xC000 })
    (t.f, t.pc, t.cycles) = (0x00, 0xC081, 12) := by decide

/-- R235. -/
theorem test_vector_J5 :
    let t := run (place [0x38, 0x80] [] { State.reset with pc := 0xC080, f := 0x10 })
    (t.f, t.pc, t.cycles) = (0x10, 0xC002, 12) := by decide

/-- R235. -/
theorem test_vector_J6 :
    let t := run (place [0x30, 0x7F] [] { State.reset with pc := 0xC000, f := 0x10 })
    (t.f, t.pc, t.cycles) = (0x10, 0xC002, 8) := by decide

/-- R231. -/
theorem test_vector_R231 :
    let t := run (place [0xC3, 0x00, 0x02] [] { State.reset with pc := 0xC000 })
    (t.f, t.pc, t.cycles) = (0x00, 0x0200, 16) := by decide

/-- R237. -/
theorem test_vector_J7 :
    let t := run (place [0xC4, 0x00, 0xC8] [] { State.reset with pc := 0xC000, sp := 0xD000 })
    (t.sp, read8 0xCFFE t, read8 0xCFFF t, t.f, t.pc, t.cycles) = (0xCFFE, 0x03, 0xC0, 0x00, 0xC800, 24) := by decide

/-- R237. -/
theorem test_vector_R237_not_taken :
    let t := run (place [0xDC, 0x34, 0x12] [] { State.reset with pc := 0xC000, sp := 0xD000 })
    (t.sp, read8 0xCFFE t, t.f, t.pc, t.cycles) = (0xD000, 0x00, 0x00, 0xC003, 12) := by decide

/-- R53, R236. -/
theorem test_vector_J8 :
    let t := run (place [0xCD, 0x00, 0xC8] [] { State.reset with pc := 0xC000, sp := 0x4000 })
    (t.sp, read8 0x3FFE t, read8 0x3FFF t, t.f, t.pc, t.cycles) = (0x3FFE, 0x00, 0x00, 0x00, 0xC800, 24) := by decide

/-- R239. -/
theorem test_vector_J9 :
    let t := run (place [0xD0] [(0xCFFE, 0x03), (0xCFFF, 0xC0)] { State.reset with pc := 0xC800, sp := 0xCFFE })
    (t.sp, t.f, t.pc, t.cycles) = (0xD000, 0x00, 0xC003, 20) := by decide

/-- R239. -/
theorem test_vector_J10 :
    let t := run (place [0xD8] [] { State.reset with pc := 0xC800, sp := 0xCFFE })
    (t.sp, t.f, t.pc, t.cycles) = (0xCFFE, 0x00, 0xC801, 8) := by decide

/-- R238. -/
theorem test_vector_R238 :
    let t := run (place [0xC9] [(0xFFFC, 0x03), (0xFFFD, 0xC0)] { State.reset with pc := 0xC000, sp := 0xFFFC })
    (t.sp, t.f, t.pc, t.cycles) = (0xFFFE, 0x00, 0xC003, 16) := by decide

/-- R241. -/
theorem test_vector_J11 :
    let t := run (place [0xCF] [] { State.reset with pc := 0xC123, sp := 0xD000 })
    (t.sp, read8 0xCFFE t, read8 0xCFFF t, t.f, t.pc, t.cycles) = (0xCFFE, 0x24, 0xC1, 0x00, 0x0008, 16) := by decide

/-- R240. -/
theorem test_vector_J12 :
    let t := run (place [0xD9] [(0xD000, 0x00), (0xD001, 0x90)] { State.reset with pc := 0xC000, sp := 0xD000 })
    (t.sp, t.ime, t.f, t.pc, t.cycles) = (0xD002, true, 0x00, 0x9000, 16) := by decide

/-- R250. -/
theorem test_vector_M1 :
    let t := run (place [0x00] [] { State.reset with pc := 0xC000 })
    (t.f, t.pc, t.cycles) = (0x00, 0xC001, 4) := by decide

/-- R251. -/
theorem test_vector_M2 :
    let t := run (place [0xF3] [] { State.reset with pc := 0xC000, ime := true })
    (t.ime, t.f, t.pc, t.cycles) = (false, 0x00, 0xC001, 4) := by decide

/-- R252, R307. -/
theorem test_vector_M3 :
    let t := run (place [0xFB] [] { State.reset with pc := 0xC000 })
    (t.ime, t.f, t.pc, t.cycles) = (true, 0x00, 0xC001, 4) := by decide

/-- R28, R250: PC wraps. -/
theorem test_vector_S7a :
    let t := run (place [0x00] [] { State.reset with pc := 0xFFFF })
    (t.f, t.pc, t.cycles) = (0x00, 0x0000, 4) := by decide

/-- R23, R179. -/
theorem test_vector_S7c :
    let t := run (place [0x05] [] { State.reset with pc := 0xC000, b := 0x00 })
    (t.b, t.f, t.pc, t.cycles) = (0xFF, 0x60, 0xC001, 4) := by decide

/-- L9: R57, R81, R110, the fetch wraps. -/
theorem test_vector_L9 :
    let t := run (place [] [(0xFFFE, 0xFA), (0xFFFF, 0x34), (0x0000, 0x12), (0x1234, 0x5E)] { State.reset with pc := 0xFFFE })
    (t.a, t.pc, t.cycles) = (0x5E, 0x0001, 16) := by decide

/-! ### Faults: vectors S2 and M4 to M8 -/

/-- The start state of vector M4. -/
def faultStart (code : List Byte) : State :=
  place code [] { State.reset with pc := 0xC000, a := 0x11, sp := 0xD000, cycles := 100 }

theorem test_vector_M4_halt :
    step (faultStart [0x76]) = .next (raiseUnimplemented [0x76] (faultStart [0x76])) := rfl

theorem test_vector_M5_stop :
    step (faultStart [0x10, 0x00]) = .next (raiseUnimplemented [0x10] (faultStart [0x10, 0x00])) := rfl

theorem test_vector_M6_undefined :
    ∀ op ∈ [0xD3#8, 0xDB, 0xDD, 0xE3, 0xE4, 0xEB, 0xEC, 0xED, 0xF4, 0xFC, 0xFD],
      let t := run (faultStart [op])
      (t.fault, t.a, t.sp, t.pc, t.cycles, t.dot) =
        (some { addr := 0xC000, bytes := [op] }, 0x11, 0xD000, 0xC000, 100, 0) := by decide

theorem test_vector_M7_secondary :
    stepWith { leftOutPrimary := [], leftOutCb := [0x37] } (faultStart [0xCB, 0x37]) =
      .next (raiseUnimplemented [0xCB, 0x37] (faultStart [0xCB, 0x37])) := rfl

theorem test_vector_M8_terminal :
    step (raiseUnimplemented [0xD3] (faultStart [0xD3])) = .next (raiseUnimplemented [0xD3] (faultStart [0xD3])) := rfl

/-! ### The Bus: vector S6 -/

theorem test_vector_S6 :
    read16 0x8000 (write16 0x8000 0xBEEF State.reset) = 0xBEEF ∧
    read16 0xFFFE (write16 0xFFFE 0xBEEF State.reset) = 0xBEEF ∧
    read16 0xFFFF (write16 0xFFFF 0xBEEF (place [] [(0x0000, 0x31)] State.reset)) = 0x31EF ∧
    read16 0x7FFF (write16 0x7FFF 0xBEEF State.reset) = 0xBE00 ∧
    (write16 0x1234 0xBEEF State.reset).mem = [] := by decide

/-! ### The display -/

/-- A state at the last dot of a line. -/
def atLineEnd (line : Nat) (data : List Host.Cell) (s : State) : State :=
  place [] data { s with dot := 455, line := line, frameReady := decide (144 ≤ line) }

/-- What a display state shows of its counters and LY. -/
def counters (s : State) : Nat × Nat × Bool × Byte := (s.dot, s.line, s.frameReady, read8 0xFF44 s)

/-- S3 and S4: the ticks that enter lines 1 and 144. -/
theorem test_vector_S3_S4 :
    counters (tick (atLineEnd 0 [] State.reset)) = (0, 1, false, 0x01) ∧
    counters (tick (atLineEnd 143 [(0xFF44, 0x8F)] State.reset)) = (0, 144, true, 0x90) := by decide

/-- S5 and D1: lines 145..153 leave LY alone, and line 0 writes it and clears frame-ready. -/
theorem test_vector_S5_D1 :
    counters (tick (atLineEnd 144 [(0xFF44, 0x90)] State.reset)) = (0, 145, true, 0x90) ∧
    counters (tick (atLineEnd 152 [(0xFF44, 0x55)] State.reset)) = (0, 153, true, 0x55) ∧
    counters (tick (atLineEnd 153 [(0xFF44, 0x55)] State.reset)) = (0, 0, false, 0x00) := by decide

/-- The tile of vectors D2 to D4. -/
def tileT : List Host.Cell := [(0x8000, 0xF0), (0x8001, 0xCC)]

/-- The first pixels of a row after the tick that enters it. -/
def rowStart (n ly : Nat) (s : State) : List Shade := ((tick s).fb.getD ly []).take n

theorem test_vector_D2 :
    rowStart 10 8 (atLineEnd 7 tileT State.reset) =
      [.black, .black, .lightGray, .lightGray, .darkGray, .darkGray, .white, .white, .black, .black] := by decide

theorem test_vector_D3 :
    rowStart 8 8 (atLineEnd 7 ((0xFF43, 3) :: tileT) State.reset) =
      [.lightGray, .darkGray, .darkGray, .white, .white, .black, .black, .lightGray] := by decide

theorem test_vector_D4 :
    rowStart 4 7 (atLineEnd 6 ((0xFF42, 1) :: tileT) State.reset) = [.black, .black, .lightGray, .lightGray] ∧
    rowStart 4 8 (atLineEnd 7 ((0xFF42, 1) :: tileT) State.reset) = [.white, .white, .white, .white] := by decide

theorem test_vector_D5 :
    (rowStart 16 3 (atLineEnd 2 [(0x9801, 1), (0x8016, 0x81), (0x8017, 0x01)] State.reset)).drop 8 =
      [.lightGray, .white, .white, .white, .white, .white, .white, .black] := by decide

theorem test_vector_D6 :
    rowStart 2 5 (atLineEnd 4 [(0x8000, 0xFF), (0x8001, 0xFF), (0xFF42, 250)] State.reset) = [.white, .white] ∧
    rowStart 2 6 (atLineEnd 5 [(0x8000, 0xFF), (0x8001, 0xFF), (0xFF42, 250)] State.reset) = [.black, .black] := by decide

/-- D7 and R303: an instruction whose ticks enter line 144 leaves LY = 144 for the next one to read. -/
theorem test_vector_D7 :
    counters (run (place [0x00] [(0xFF44, 0x8F)] { State.reset with pc := 0xC000, dot := 453, line := 143 })) =
      (1, 144, true, 0x90) := by decide

/-! ### Power-on -/

/-- R263: the boot image is checked first. -/
theorem test_powerOn_failures :
    powerOn { Config.referenceLaunch with boot := .unreadable, cart := .unreadable } =
      .fault (.resourceLoadFailure .boot) ∧
    powerOn { Config.referenceLaunch with boot := .image [0x00] } = .fault (.resourceLoadFailure .boot) ∧
    powerOn { Config.referenceLaunch with cart := .unreadable } = .fault (.resourceLoadFailure .cartridge) := ⟨rfl, rfl, rfl⟩

/-- R311, R312: the boot image overwrites the cartridge's first 256 bytes. -/
theorem test_powerOn_overlay :
    (powerOnMemory [0x11, 0x22] [0x33]).read 0 = 0x33 ∧ (powerOnMemory [0x11, 0x22] [0x33]).read 1 = 0x22 := by decide

/-! ### The end of a run -/

/-- R319: a normal end is a step boundary at a stop address, a faulted state is none. -/
theorem test_run_status :
    runStatus { Config.referenceLaunch with stopPcs := [0xC000] } (faultStart [0x00]) = .ended ∧
    runStatus { Config.referenceLaunch with stopPcs := [0xC001] } (faultStart [0x00]) = .running ∧
    runStatus { Config.referenceLaunch with stopPcs := [0xC000] } (raiseUnimplemented [0xD3] (faultStart [0xD3])) =
      .faulted ∧
    faultCode { addr := 0xC000, bytes := [0xD3] } = 1 ∧ faultCode { addr := 0xC000, bytes := [0xCB, 0x37] } = 2 := by
  decide

/-- The launch of program P1 of spec/95_test_vectors.md. -/
def programP1 : Config.Launch :=
  { Config.referenceLaunch with
    entryPc := 0x0100
    cart := .image (List.replicate 256 0x00 ++ [0x3E, 0x05, 0x3D, 0x18, 0xFE])
    stopPcs := [0x0103] }

/-- What a driver's report shows: status, steps, A, F, PC, cycles, dot and line. -/
def reported (o : Host.Outcome RunReport Fault Refusal) : Option (RunStatus × Nat × List Nat) :=
  match o with
  | .next r => some (r.status, r.steps,
      [r.state.a.toNat, r.state.f.toNat, r.state.pc.toNat, r.state.cycles, r.state.dot, r.state.line])
  | _ => none

/-- P1 ends after 2 steps, with leave for more, and is still running when it has leave for 1. -/
theorem test_program_P1 :
    reported (runLaunch programP1 5) = some (.ended, 2, [0x04, 0x40, 0x0103, 12, 12, 0]) ∧
    reported (runLaunch programP1 1) = some (.running, 1, [0x05, 0x00, 0x0102, 8, 8, 0]) := by decide +kernel

/-- R319, R262: an undefined byte ends the run as faulted, with nothing done; a bounded run goes through STOP_PCS. -/
theorem test_run_faults_and_bounds :
    reported (drive { Config.referenceLaunch with stopPcs := [0x1234] } 5 (faultStart [0x00, 0xD3])) =
      some (.faulted, 2, [0x11, 0x00, 0xC001, 104, 4, 0]) ∧
    (match boundedRun programP1 3 with
      | .next s => some (s.pc, s.cycles)
      | _ => none) = some (0x0103, 24) := by decide +kernel

/-! ### Witnesses: for each obligation with hypotheses, states and operands that meet them -/

/-- A state with a byte in memory and HL where the caller says. -/
def sample (hl : Word) : State :=
  { State.reset with pc := 0xC000, sp := 0xD000, h := hiByte hl, l := loByte hl, a := 0x12, mem := [(0xC100, 0x99)] }

/-- The stores of `LD (HL),d8` on both sides of the guard. -/
theorem witness_LoadImmediateDelivers :
    (sample 0x7FFF).mem.wf = true ∧ (sample 0x8000).mem.wf = true ∧
    exec (.ldIndHLD8 0x55) (sample 0x7FFF) = .next (retire 2 12 (sample 0x7FFF)) ∧
    exec (.ldIndHLD8 0x55) (sample 0x8000) =
      .next (retire 2 12 { sample 0x8000 with mem := [(0x8000, 0x55), (0xC100, 0x99)] }) :=
  ⟨by decide, by decide, rfl, rfl⟩

theorem witness_StoreRegisterToMemoryAtHL :
    (sample 0x7FFF).mem.wf = true ∧ (sample 0xFFFF).mem.wf = true ∧
    exec .ldIndHLA (sample 0x7FFF) = .next (retire 1 8 (sample 0x7FFF)) ∧
    exec .ldIndHLA (sample 0xFFFF) =
      .next (retire 1 8 { sample 0xFFFF with mem := [(0xC100, 0x99), (0xFFFF, 0x12)] }) :=
  ⟨by decide, by decide, rfl, rfl⟩

theorem witness_StoreAccumulatorToMemory :
    (sample 0).mem.wf = true ∧
    exec (.ldIndA16A 0x7FFF) (sample 0) = .next (retire 3 16 (sample 0)) ∧
    exec (.ldhIndA8A 0xFF) (sample 0) =
      .next (retire 2 12 { sample 0 with mem := [(0xC100, 0x99), (0xFFFF, 0x12)] }) := ⟨by decide, rfl, rfl⟩

theorem witness_StoreAccumulatorAndStepHL :
    (sample 0x8000).mem.wf = true ∧ (sample 0x0000).mem.wf = true ∧
    getPair .hl (run (place [0x32] [] (sample 0x8000))) = 0x7FFF ∧
    getPair .hl (run (place [0x32] [] (sample 0x0000))) = 0xFFFF := by decide

theorem witness_LoadPairWritesBothHalves : Pair.bc ≠ .sp ∧ Pair.hl ≠ .sp := by decide

theorem witness_StoreStackPointer :
    (sample 0).mem.wf = true ∧
    (∀ a ∈ [0x7FFE#16, 0x7FFF, 0x8000, 0xFFFF], ∃ t, exec (.ldIndA16SP a) (sample 0) = .next t) :=
  ⟨by decide, fun _ _ => ⟨_, rfl⟩⟩

theorem witness_PushStoresPair :
    ({ sample 0 with sp := 0x0001 }).mem.wf = true ∧ ({ sample 0 with sp := 0x8001 }).mem.wf = true ∧
    exec .pushAF { sample 0 with sp := 0x8001 } =
      .next (retire 1 16 { sample 0 with sp := 0x7FFF, mem := [(0x8000, 0x12), (0xC100, 0x99)] }) :=
  ⟨by decide, by decide, rfl⟩

theorem witness_PopLoadsPair : StackPair.bc ≠ .af ∧ StackPair.hl ≠ .af := by decide

theorem witness_IncrementByte :
    (sample 0xC100).mem.wf = true ∧ (sample 0x7FFF).mem.wf = true ∧
    exec .incIndHL (sample 0x7FFF) = .next (retire 1 12 { sample 0x7FFF with f := 0x00 }) ∧
    op8 .hlMem (sample 0xC100) = 0x99 := ⟨by decide, by decide, rfl, by decide⟩

theorem witness_DecrementByte :
    (sample 0xC100).mem.wf = true ∧ (sample 0x7FFF).mem.wf = true ∧
    exec .decIndHL (sample 0x7FFF) = .next (retire 1 12 { sample 0x7FFF with f := 0x60 }) ∧
    op8 .hlMem (sample 0xC100) = 0x99 := ⟨by decide, by decide, rfl, by decide⟩

/-- Both directions of DAA. -/
theorem witness_DecimalAdjustAlgorithm :
    flagN (sample 0) = false ∧ flagN { sample 0 with f := 0x40 } = true := by decide

theorem witness_DecimalAdjustCorrectsBcd :
    99 < 100 ∧ 0 < 100 ∧ ({ sample 0 with a := 0x99 }).a = bcdOf 99 ∧ ({ sample 0 with a := 0x00 }).a = bcdOf 0 := by
  decide

theorem witness_RotateAndShift :
    (sample 0xC100).mem.wf = true ∧ (sample 0x7FFF).mem.wf = true ∧
    exec .sraIndHL (sample 0xC100) =
      .next (retire 2 16 { sample 0xC100 with f := 0x10, mem := [(0xC100, 0xCC)] }) := ⟨by decide, by decide, rfl⟩

theorem witness_ClearAndSetBit :
    (sample 0xC100).mem.wf = true ∧ (sample 0x7FFF).mem.wf = true ∧
    exec (.resIndHL 7) (sample 0xC100) = .next (retire 2 16 { sample 0xC100 with mem := [(0xC100, 0x19)] }) ∧
    exec (.setIndHL 0) (sample 0x7FFF) = .next (retire 2 16 (sample 0x7FFF)) := ⟨by decide, by decide, rfl, rfl⟩

/-- Both outcomes of a condition. -/
theorem witness_conditions :
    cond .z { sample 0 with f := 0x80 } = true ∧ cond .z (sample 0) = false ∧
    cond .nc (sample 0) = true ∧ cond .nc { sample 0 with f := 0x10 } = false := by decide

theorem witness_CallsPushReturnAddress :
    (sample 0).mem.wf = true ∧ cond .nz (sample 0) = true ∧ cond .c (sample 0) = false ∧
    exec .rst38 (sample 0) = .next { sample 0 with
      pc := 0x0038, sp := 0xCFFE, cycles := 16, mem := [(0xC100, 0x99), (0xCFFE, 0x01), (0xCFFF, 0xC0)] } :=
  ⟨by decide, by decide, by decide, rfl⟩

theorem witness_CallThenReturnRestores :
    (sample 0).mem.wf = true ∧
    (∀ sp ∈ [0x8002#16, 0xFFFF, 0x0000], 0x8000 ≤ (sp - 2).toNat ∧ 0x8000 ≤ (sp - 1).toNat) := by simp [sample, State.reset, Memory.wf, Memory.wfFrom, Memory.unlisted]

theorem witness_FatalByteEndsRun :
    (faultStart [0x76]).fault = none ∧ (read8 (faultStart [0x76]).pc (faultStart [0x76])).toNat = 0x76 ∧
    (read8 (faultStart [0xFD]).pc (faultStart [0xFD])).toNat = 0xFD := by decide

/-- An interpreter without `INC B` and `SWAP A`. -/
def smaller : Config.Interpreter := { leftOutPrimary := [0x04], leftOutCb := [0x37] }

theorem witness_LeftOutOpcodeEndsRun :
    (faultStart [0x04]).fault = none ∧ read8 0xC000 (faultStart [0x04]) ≠ 0xCB ∧
    read8 0xC000 (faultStart [0x04]) ∈ smaller.leftOutPrimary ∧ (faultStart [0xCB, 0x37]).fault = none ∧
    read8 0xC000 (faultStart [0xCB, 0x37]) = 0xCB ∧
    read8 (0xC000 + 1) (faultStart [0xCB, 0x37]) ∈ smaller.leftOutCb := by decide

theorem witness_FaultedStateIsTerminal : (raiseUnimplemented [0xD3] (sample 0)).fault ≠ none := by decide

theorem witness_DecodeOfEncode :
    (Instr.ldSPD16 0xFFFF).wf = true ∧ (Instr.bitH 7).wf = true ∧ (Instr.bitB 0).wf = true ∧ Instr.stop.wf = true := by
  decide

theorem witness_EncodeOfDecode :
    decode [0x3E, 0x05, 0x3D] = .ok (.ldAD8 0x05, [0x3D]) ∧ Instr.ldAD8 0x05 ≠ .stop := by decide

theorem witness_StepRunsDecodedInstruction :
    (sample 0).fault = none ∧
    decodeWith smaller [read8 0xC000 (sample 0), read8 (0xC000 + 1) (sample 0), read8 (0xC000 + 2) (sample 0)] =
      .ok (.nop, [0x00, 0x00]) ∧
    exec .nop (sample 0) = .next (retire 1 4 (sample 0)) := ⟨rfl, by decide, rfl⟩

/-- The sample meets the invariant. -/
theorem sample_inv (hl : Word) : Inv (sample hl) := by
  refine ⟨rfl, by simp [sample, State.reset, Config.referenceResetRegs], by simp [sample, State.reset], by simp [sample, State.reset],
    by simp [sample, State.reset, Config.referenceFbReset, Config.visibleLines], ?_, by simp [sample, State.reset]⟩
  intro row h
  rw [List.eq_of_mem_replicate h]
  simp [Config.screenWidth]

/-- A state in vertical blank. -/
def blanking : State := { sample 0 with line := 144, frameReady := true }

theorem blanking_inv : Inv blanking := by
  obtain ⟨h1, h2, h3, -, h5, h6, -⟩ := sample_inv 0
  exact ⟨h1, h2, h3, by simp [blanking], h5, h6, by simp [blanking]⟩

theorem witness_StepKeepsInvariant : Inv (sample 0) ∧ ∃ t, step (sample 0) = .next t := ⟨sample_inv 0, _, rfl⟩

theorem witness_StepKeepsRom : (0x7FFF#16).toNat < 0x8000 ∧ ∃ t, step (sample 0) = .next t := ⟨by decide, _, rfl⟩

theorem witness_StepMovesDisplayByCost :
    Inv (sample 0) ∧ ∃ t, step (sample 0) = .next t ∧ t.fault = none := ⟨sample_inv 0, _, rfl, rfl⟩

theorem witness_ExecutionIgnoresHiddenState : ∃ t, exec .ei (sample 0) = .next t := ⟨_, rfl⟩

theorem witness_TickOutsideVisibleLines :
    (∃ s : State, s.dot < 455) ∧ (∃ s : State, s.mem.wf = true ∧ s.dot = 455 ∧ s.line = 143) ∧
    (∀ line ∈ [144, 152], ∃ s : State, s.dot = 455 ∧ s.line = line ∧ 144 ≤ s.line ∧ s.line < 153) :=
  ⟨⟨{ sample 0 with dot := 454 }, by decide⟩, ⟨{ sample 0 with dot := 455, line := 143 }, by decide⟩,
    fun line h => ⟨{ sample 0 with dot := 455, line := line }, rfl, rfl, by revert line; decide, by revert line; decide⟩⟩

/-- Line 0 from line 153, line 1 from line 0, and line 143 from line 142. -/
theorem witness_TickEntersVisibleLine :
    ∀ p ∈ [(153, 0), (0, 1), (142, 143)],
      let s := { sample 0 with dot := 455, line := p.1 }
      s.mem.wf = true ∧ s.dot = 455 ∧ p.2 < 144 ∧ (s.line + 1 = p.2 ∨ (s.line = 153 ∧ p.2 = 0)) := by decide

/-- A driver that passes boundary 1 before its first stop, a boundary of a run that is no stop, and the self-loop. -/
theorem witness_RunEndsAtFirstStop :
    (match runLaunch programP1 5 with
      | .next r => decide (1 < r.steps)
      | _ => false) = true ∧
    (match boundedRun programP1 1 with
      | .next u => decide (u.fault = none ∧ u.pc ∉ programP1.stopPcs)
      | _ => false) = true ∧
    (faultStart [0x18, 0xFE]).fault = none ∧ read8 0xC000 (faultStart [0x18, 0xFE]) = 0x18 ∧
    read8 (0xC000 + 1) (faultStart [0x18, 0xFE]) = 0xFE ∧ 0x18 ∉ Config.referenceInterpreter.leftOutPrimary := by
  decide +kernel

theorem witness_FrameTiming :
    (sample 0).dot = 0 ∧ (sample 0).line = 0 ∧ (sample 0).frameReady = false ∧
      (∀ k ∈ [0, 143, 144, 153, 154], k ≤ 154) := by decide

theorem witness_LineRegisterTiming :
    (sample 0).mem.wf = true ∧ (sample 0).dot = 0 ∧ (sample 0).line = 0 ∧
      (∀ k ∈ [1, 143, 144, 145, 153, 154], 1 ≤ k ∧ k ≤ 154) := by decide

theorem witness_TicksWriteOnlyDisplayState : (0xFF43#16) ≠ 0xFF44 := by decide

theorem witness_FramebufferStableWhileReady :
    Inv blanking ∧ ∃ t, step blanking = .next t ∧ blanking.frameReady = true ∧ t.frameReady = true :=
  ⟨blanking_inv, _, rfl, rfl, rfl⟩

/-- The boundary addresses of each clause. -/
theorem witness_WordWriteThenRead :
    (sample 0).mem.wf = true ∧ (∀ a ∈ [0x8000#16, 0xFFFE], 0x8000 ≤ a.toNat ∧ a.toNat ≤ 0xFFFE) ∧
      (∀ a ∈ [0x0000#16, 0x7FFE], a.toNat < 0x7FFF) := by simp [sample, State.reset, Memory.wf, Memory.wfFrom, Memory.unlisted]

/-- A launch with both images. -/
def launch : Config.Launch :=
  { Config.referenceLaunch with cart := .image (List.replicate 65536 0x11), boot := .image (List.replicate 256 0x22) }

theorem witness_PowerOnLoadsImages :
    ∃ cart boot, launch.cart = .image cart ∧ launch.boot = .image boot ∧ boot.length = 256 ∧ cart.length ≤ 65536 :=
  ⟨List.replicate 65536 0x11, List.replicate 256 0x22, rfl, rfl, List.length_replicate,
    Nat.le_of_eq List.length_replicate⟩

/-- A launch is allowed where it takes its registers and framebuffer from the reference. -/
theorem launchOk_reference (l : Config.Launch) (h1 : l.resetRegs = Config.referenceResetRegs)
    (h2 : l.fbReset = Config.referenceFbReset) : launchOk l = true := by
  simp only [launchOk, h1, h2, Config.referenceFbReset, List.length_replicate, List.all_replicate]
  simp [Config.referenceResetRegs, Config.visibleLines]

/-- A boot image one byte short, a cartridge one byte too long, and the reference launch. -/
theorem witness_PowerOnMeetsInvariantOrFails :
    (∃ b : List Byte, ({ launch with boot := .image b }).boot = .image b ∧ b.length ≠ 256) ∧
    (∃ c : List Byte, ({ launch with cart := .image c }).cart = .image c ∧ 65536 < c.length) ∧
    launchOk launch = true ∧ launchOk Config.referenceLaunch = true :=
  ⟨⟨List.replicate 255 0, rfl, by rw [List.length_replicate]; omega⟩,
    ⟨List.replicate 65537 0, rfl, by rw [List.length_replicate]; omega⟩,
    launchOk_reference _ rfl rfl, launchOk_reference _ rfl rfl⟩

end Sys2Proof.Tests
end

section
/-! PROOFS. Power-on: which images make it fail and what it answers otherwise (spec/60_exceptions.md R263,
spec/70_reset_and_hazards.md R310 to R315), and that the state it answers meets the invariant. -/

namespace Sys2Proof.Proofs.PowerOn

open Sys2Proof Sys2Proof.Machine Sys2Proof.Safety

/-! ### The images -/

/-- The boot images that make power-on fail (R263). -/
def BootUnusable (src : Config.BootSource) : Prop := src = .unreadable ∨ ∃ b, src = .image b ∧ b.length ≠ 256

/-- The cartridge images that make power-on fail (R263). -/
def CartUnusable (src : Config.CartSource) : Prop := src = .unreadable ∨ ∃ c, src = .image c ∧ 65536 < c.length

theorem bootBytes_of_unusable {src : Config.BootSource} (h : BootUnusable src) : bootBytes src = .error .boot := by
  obtain rfl | ⟨b, rfl, hlen⟩ := h
  · rfl
  · exact if_neg hlen

theorem cartBytes_of_unusable {src : Config.CartSource} (h : CartUnusable src) :
    cartBytes src = .error .cartridge := by
  obtain rfl | ⟨c, rfl, hlen⟩ := h
  · rfl
  · exact if_neg (Nat.not_le.mpr hlen)

theorem bootBytes_of_usable {src : Config.BootSource} (h : ¬ BootUnusable src) :
    ∃ boot, bootBytes src = .ok boot ∧ boot.length ≤ 65536 := by
  cases src with
  | unreadable => exact absurd (.inl rfl) h
  | skipped => exact ⟨[], rfl, Nat.zero_le _⟩
  | image b =>
    have hlen : b.length = 256 := by
      by_contra hne
      exact h (.inr ⟨b, rfl, hne⟩)
    exact ⟨b, if_pos hlen, by omega⟩

theorem cartBytes_of_usable {src : Config.CartSource} (h : ¬ CartUnusable src) :
    ∃ cart, cartBytes src = .ok cart ∧ cart.length ≤ 65536 := by
  cases src with
  | unreadable => exact absurd (.inl rfl) h
  | image c =>
    have hlen : c.length ≤ 65536 := by
      by_contra hgt
      exact h (.inr ⟨c, rfl, Nat.not_le.mp hgt⟩)
    exact ⟨c, if_pos hlen, hlen⟩

/-! ### What power-on answers -/

theorem powerOn_of_boot_error {l : Config.Launch} {w : Image} (h : bootBytes l.boot = .error w) :
    powerOn l = .fault (.resourceLoadFailure w) := by
  simp only [powerOn, h]

theorem powerOn_of_cart_error {l : Config.Launch} {boot : List Byte} {w : Image} (hboot : bootBytes l.boot = .ok boot)
    (hcart : cartBytes l.cart = .error w) : powerOn l = .fault (.resourceLoadFailure w) := by
  simp only [powerOn, hboot, hcart]

theorem powerOn_of_ok {l : Config.Launch} {boot cart : List Byte} (hboot : bootBytes l.boot = .ok boot)
    (hcart : cartBytes l.cart = .ok cart) : powerOn l = .next (powerOnState l cart boot) := by
  simp only [powerOn, hboot, hcart]

/-! ### The invariant at power-on -/

/-- An allowed launch in the terms of the invariant (R12, R25, R32). -/
theorem launchOk_iff (l : Config.Launch) :
    launchOk l = true ↔
      l.resetRegs.f &&& 0x0F = 0 ∧ l.fbReset.length = 144 ∧ ∀ row ∈ l.fbReset, row.length = 160 := by
  simp only [launchOk, Bool.and_eq_true, decide_eq_true_eq, List.all_eq_true, and_assoc]
  exact Iff.rfl

theorem launchOk_referenceLaunch : launchOk Config.referenceLaunch = true :=
  (launchOk_iff _).mpr ⟨rfl, List.length_replicate, fun _ hrow =>
    List.eq_of_mem_replicate hrow ▸ List.length_replicate⟩

/-- Images that fit leave the memory in canonical form (R310 to R312). -/
theorem powerOnMemory_wf {cart boot : List Byte} (hcart : cart.length ≤ 65536) (hboot : boot.length ≤ 65536) :
    (powerOnMemory cart boot).wf = true :=
  Memory.load_wf _ 0 boot (Memory.load_wf [] 0 cart rfl (by omega)) (by omega)

/-- An allowed launch with images that fit starts in the invariant. -/
theorem powerOnState_inv {l : Config.Launch} {cart boot : List Byte} (hl : launchOk l = true)
    (hcart : cart.length ≤ 65536) (hboot : boot.length ≤ 65536) : Inv (powerOnState l cart boot) := by
  obtain ⟨hflags, hrows, hcolumns⟩ := (launchOk_iff l).mp hl
  exact
    { memory := powerOnMemory_wf hcart hboot
      lowNibble := hflags
      dotRange := (by decide : 0 < 456)
      lineRange := (by decide : 0 < 154)
      rows := hrows
      columns := hcolumns
      frameReady := rfl }

/-- Reset is the power-on state of the reference launch, with no byte copied in (R12, R37). -/
theorem powerOnState_referenceLaunch : powerOnState Config.referenceLaunch [] [] = State.reset := rfl

/-- Settles O60: the boot image is looked at first, then the cartridge, and images that pass both checks fit into the
address space, so the loader keeps its canonical form. -/
theorem powerOnMeetsInvariantOrFails : Obligations.PowerOnMeetsInvariantOrFails := by
  intro l hl bootBad cartBad
  refine ⟨fun hboot => powerOn_of_boot_error (bootBytes_of_unusable hboot), fun hboot hcart => ?_,
    fun hboot hcart => ?_⟩
  · obtain ⟨boot, hb, -⟩ := bootBytes_of_usable hboot
    exact powerOn_of_cart_error hb (cartBytes_of_unusable hcart)
  · obtain ⟨boot, hb, hblen⟩ := bootBytes_of_usable hboot
    obtain ⟨cart, hc, hclen⟩ := cartBytes_of_usable hcart
    exact ⟨powerOnState l cart boot, powerOn_of_ok hb hc, powerOnState_inv hl hclen hblen⟩

/-- Settles O46: reset is the power-on state of the reference launch, which is an allowed one. -/
theorem resetMeetsInvariant : Obligations.ResetMeetsInvariant := by
  rw [Obligations.ResetMeetsInvariant, ← powerOnState_referenceLaunch]
  exact ⟨powerOn_of_ok rfl rfl, powerOnState_inv launchOk_referenceLaunch (Nat.zero_le _) (Nat.zero_le _)⟩

end Sys2Proof.Proofs.PowerOn
end

section
/-! PROOFS. The state invariant (spec/10_state.md R25, R32, R50, spec/60_exceptions.md R272, R278): an instruction's
effect keeps it, a display tick keeps it, and a system step is one after the other (`stepWith_cases`). -/

namespace Sys2Proof.Proofs.StepInvariant

open Sys2Proof Sys2Proof.Machine Sys2Proof.Safety

/-! ### What a system step can do -/

/-- The CPU's part of a step is the effect of an instruction or of a decode failure; `settle` follows (R80, R82,
R301). -/
theorem runInstr_effect (k : Config.Interpreter) (s : State) :
    ∃ u, Effect s u ∧ runInstr k s = settle s (.next u) := by
  unfold runInstr
  split
  · next i _ _ =>
    obtain ⟨u, hexec, heffect⟩ := exec_effect i s
    exact ⟨u, heffect, by rw [hexec]⟩
  · next e _ => exact ⟨_, .raised (reportedBytes e), rfl⟩

/-- After the CPU's part a fault ends the step; otherwise the owed ticks follow (R301). -/
theorem settle_next_cases {s u t : State} (h : settle s (.next u) = .next t) :
    (u.fault ≠ none ∧ t = u) ∨ (u.fault = none ∧ t = ticks (owedTicks s u) u) := by
  unfold settle at h
  cases hfault : u.fault with
  | none => exact .inr ⟨rfl, by simpa [hfault] using h.symm⟩
  | some r => exact .inl ⟨Option.some_ne_none r, by simpa [hfault] using h.symm⟩

/-- All that a system step can do: nothing in a faulted state (R262); otherwise an instruction's effect, with the owed
ticks after it unless it faulted (R301). -/
theorem stepWith_cases {k : Config.Interpreter} {s t : State} (h : stepWith k s = .next t) :
    (s.fault ≠ none ∧ t = s) ∨
    (s.fault = none ∧ ∃ u, Effect s u ∧
      ((u.fault ≠ none ∧ t = u) ∨ (u.fault = none ∧ t = ticks (owedTicks s u) u))) := by
  unfold stepWith at h
  split at h
  · next r hfault => exact .inl ⟨by simp [hfault], (Host.Outcome.next.inj h).symm⟩
  · next hfault =>
    obtain ⟨u, heffect, hrun⟩ := runInstr_effect k s
    exact .inr ⟨hfault, u, heffect, settle_next_cases (hrun ▸ h)⟩

/-! ### What keeps the invariant -/

/-- An instruction writes memory through the Bus and F with a zero low nibble, and leaves the display alone. -/
theorem inv_of_effect {s t : State} (heffect : Effect s t) (hs : Inv s) : Inv t := by
  obtain ⟨hmem, -, hnibble, hdot, hline, hready, hfb, -⟩ := heffect.keeps
  exact
    { memory := hmem hs.memory
      lowNibble := hnibble hs.lowNibble
      dotRange := hdot ▸ hs.dotRange
      lineRange := hline ▸ hs.lineRange
      rows := hfb ▸ hs.rows
      columns := hfb ▸ hs.columns
      frameReady := by rw [hready, hline, hs.frameReady] }

theorem tick_dot_lt {s : State} (h : s.dot < 456) : (tick s).dot < 456 := by
  rw [(tick_counters s).1]
  split <;> omega

theorem tick_line_lt {s : State} (h : s.line < 154) : (tick s).line < 154 := by
  rw [(tick_counters s).2.1]
  split
  · split <;> omega
  · exact h

/-- Frame-ready is raised with the entry to line 144 and cleared with the wrap to line 0 (R278). -/
theorem tick_frameReady {s : State} (hline : s.line < 154) (h : s.frameReady = decide (144 ≤ s.line)) :
    (tick s).frameReady = decide (144 ≤ (tick s).line) := by
  obtain ⟨-, hl, hr⟩ := tick_counters s
  rw [hl, hr, h]
  by_cases hdot : s.dot = 455
  · rw [if_pos hdot, if_pos hdot]
    by_cases hlast : s.line = 153
    · simp [hlast]
    · rw [if_neg hlast, ← Bool.coe_iff_coe]
      simp only [Bool.or_eq_true, Bool.and_eq_true, decide_eq_true_eq]
      omega
  · rw [if_neg hdot, if_neg hdot]

theorem inv_tick {s : State} (hs : Inv s) : Inv (tick s) :=
  have hdisplay := tick_display s
  { memory := hdisplay.wf hs.memory
    lowNibble := hdisplay.f ▸ hs.lowNibble
    dotRange := tick_dot_lt hs.dotRange
    lineRange := tick_line_lt hs.lineRange
    rows := hdisplay.rows.trans hs.rows
    columns := hdisplay.width hs.columns
    frameReady := tick_frameReady hs.lineRange hs.frameReady }

theorem inv_ticks (n : Nat) {s : State} (hs : Inv s) : Inv (ticks n s) := by
  induction n generalizing s with
  | zero => exact hs
  | succ n ih => exact ih (inv_tick hs)

/-- Settles O45: of the three ways a step can go, the first changes nothing, and the other two are an instruction's
effect, the last with the ticks after it. -/
theorem stepKeepsInvariant : Obligations.StepKeepsInvariant := by
  intro k s t hs hstep
  obtain ⟨-, rfl⟩ | ⟨-, u, heffect, ⟨-, rfl⟩ | ⟨-, rfl⟩⟩ := stepWith_cases hstep
  · exact hs
  · exact inv_of_effect heffect hs
  · exact inv_ticks _ (inv_of_effect heffect hs)

end Sys2Proof.Proofs.StepInvariant
end

section
/-! PROOFS. The state no instruction reads (spec/10_state.md R30, R32, R35, spec/20_memory.md R71): IME, the display
counters, frame-ready and the framebuffer. Every operation of the CPU commutes with `withHidden`, which replaces them,
but for the writes of IME. -/

namespace Sys2Proof.Proofs.HiddenState

open Sys2Proof Sys2Proof.Machine Sys2Proof.Safety

section
variable (ime : Bool) (dot line : Nat) (ready : Bool) (fb : List (List Shade)) (s : State)

/-! ### Reads do not see the hidden state -/

@[simp] theorem withHidden_c : (withHidden ime dot line ready fb s).c = s.c := rfl
@[simp] theorem withHidden_sp : (withHidden ime dot line ready fb s).sp = s.sp := rfl

@[simp] theorem read8_withHidden (addr : Word) : read8 addr (withHidden ime dot line ready fb s) = read8 addr s := rfl

@[simp] theorem popValue_withHidden : popValue (withHidden ime dot line ready fb s) = popValue s := rfl

@[simp] theorem flagC_withHidden : flagC (withHidden ime dot line ready fb s) = flagC s := rfl

@[simp] theorem getReg8_withHidden (r : Reg8) : getReg8 r (withHidden ime dot line ready fb s) = getReg8 r s := by
  cases r <;> rfl

@[simp] theorem getPair_withHidden (p : Pair) : getPair p (withHidden ime dot line ready fb s) = getPair p s := by
  cases p <;> rfl

@[simp] theorem getStackPair_withHidden (p : StackPair) :
    getStackPair p (withHidden ime dot line ready fb s) = getStackPair p s := by
  cases p <;> rfl

@[simp] theorem op8_withHidden (o : Operand8) : op8 o (withHidden ime dot line ready fb s) = op8 o s := by
  cases o <;> simp [op8]

/-! ### State updates commute with a change of the hidden state -/

@[simp] theorem retire_withHidden (len cost : Nat) : retire len cost (withHidden ime dot line ready fb s) =
    withHidden ime dot line ready fb (retire len cost s) := rfl

@[simp] theorem raiseUnimplemented_withHidden (bytes : List Byte) :
    raiseUnimplemented bytes (withHidden ime dot line ready fb s) =
      withHidden ime dot line ready fb (raiseUnimplemented bytes s) := rfl

@[simp] theorem putFlags_withHidden (z n h c : Option Bool) : putFlags z n h c (withHidden ime dot line ready fb s) =
    withHidden ime dot line ready fb (putFlags z n h c s) := rfl

@[simp] theorem putAllFlags_withHidden (z n h c : Bool) : putAllFlags z n h c (withHidden ime dot line ready fb s) =
    withHidden ime dot line ready fb (putAllFlags z n h c s) := rfl

@[simp] theorem setReg8_withHidden (r : Reg8) (v : Byte) : setReg8 r v (withHidden ime dot line ready fb s) =
    withHidden ime dot line ready fb (setReg8 r v s) := by
  cases r <;> rfl

@[simp] theorem setPair_withHidden (p : Pair) (v : Word) : setPair p v (withHidden ime dot line ready fb s) =
    withHidden ime dot line ready fb (setPair p v s) := by
  cases p <;> rfl

@[simp] theorem setStackPair_withHidden (p : StackPair) (v : Word) :
    setStackPair p v (withHidden ime dot line ready fb s) =
      withHidden ime dot line ready fb (setStackPair p v s) := by
  cases p <;> rfl

/-- The write guard looks at the address alone (R53). -/
@[simp] theorem write8_withHidden (addr : Word) (v : Byte) : write8 addr v (withHidden ime dot line ready fb s) =
    withHidden ime dot line ready fb (write8 addr v s) := by
  unfold write8
  split <;> rfl

@[simp] theorem write16_withHidden (addr v : Word) : write16 addr v (withHidden ime dot line ready fb s) =
    withHidden ime dot line ready fb (write16 addr v s) := by
  simp [write16]

@[simp] theorem push16_withHidden (v : Word) : push16 v (withHidden ime dot line ready fb s) =
    withHidden ime dot line ready fb (push16 v s) :=
  write16_withHidden ime dot line ready fb { s with sp := s.sp - 2 } (s.sp - 2) v

@[simp] theorem popped_withHidden : popped (withHidden ime dot line ready fb s) =
    withHidden ime dot line ready fb (popped s) := rfl

@[simp] theorem setOp8_withHidden (o : Operand8) (v : Byte) : setOp8 o v (withHidden ime dot line ready fb s) =
    withHidden ime dot line ready fb (setOp8 o v s) := by
  cases o <;> simp [setOp8]

/-! ### So do the operations of the instructions -/

@[simp] theorem load8_withHidden (dst src : Operand8) : load8 dst src (withHidden ime dot line ready fb s) =
    withHidden ime dot line ready fb (load8 dst src s) := by
  simp [load8]

@[simp] theorem loadImm8_withHidden (o : Operand8) (v : Byte) : loadImm8 o v (withHidden ime dot line ready fb s) =
    withHidden ime dot line ready fb (loadImm8 o v s) :=
  setOp8_withHidden ime dot line ready fb s o v

@[simp] theorem loadA_withHidden (addr : Word) : loadA addr (withHidden ime dot line ready fb s) =
    withHidden ime dot line ready fb (loadA addr s) := rfl

@[simp] theorem storeA_withHidden (addr : Word) : storeA addr (withHidden ime dot line ready fb s) =
    withHidden ime dot line ready fb (storeA addr s) :=
  write8_withHidden ime dot line ready fb s addr s.a

@[simp] theorem incPair_withHidden (p : Pair) : incPair p (withHidden ime dot line ready fb s) =
    withHidden ime dot line ready fb (incPair p s) := by
  simp [incPair]

@[simp] theorem decPair_withHidden (p : Pair) : decPair p (withHidden ime dot line ready fb s) =
    withHidden ime dot line ready fb (decPair p s) := by
  simp [decPair]

@[simp] theorem pushPair_withHidden (p : StackPair) : pushPair p (withHidden ime dot line ready fb s) =
    withHidden ime dot line ready fb (pushPair p s) := by
  simp [pushPair]

@[simp] theorem popPair_withHidden (p : StackPair) : popPair p (withHidden ime dot line ready fb s) =
    withHidden ime dot line ready fb (popPair p s) := by
  simp [popPair]

@[simp] theorem loadHLSPOffset_withHidden (e : Byte) : loadHLSPOffset e (withHidden ime dot line ready fb s) =
    withHidden ime dot line ready fb (loadHLSPOffset e s) := rfl

@[simp] theorem addSPOffset_withHidden (e : Byte) : addSPOffset e (withHidden ime dot line ready fb s) =
    withHidden ime dot line ready fb (addSPOffset e s) := rfl

@[simp] theorem addHLPair_withHidden (p : Pair) : addHLPair p (withHidden ime dot line ready fb s) =
    withHidden ime dot line ready fb (addHLPair p s) := by
  simp [addHLPair]

@[simp] theorem aluApply_withHidden (op : AluOp) (b : Byte) : aluApply op b (withHidden ime dot line ready fb s) =
    withHidden ime dot line ready fb (aluApply op b s) := rfl

@[simp] theorem aluOp_withHidden (op : AluOp) (o : Operand8) : aluOp op o (withHidden ime dot line ready fb s) =
    withHidden ime dot line ready fb (aluOp op o s) := by
  simp [aluOp]

@[simp] theorem incOp_withHidden (o : Operand8) : incOp o (withHidden ime dot line ready fb s) =
    withHidden ime dot line ready fb (incOp o s) := by
  simp [incOp]

@[simp] theorem decOp_withHidden (o : Operand8) : decOp o (withHidden ime dot line ready fb s) =
    withHidden ime dot line ready fb (decOp o s) := by
  simp [decOp]

@[simp] theorem decimalAdjust_withHidden : decimalAdjust (withHidden ime dot line ready fb s) =
    withHidden ime dot line ready fb (decimalAdjust s) := rfl

@[simp] theorem complementA_withHidden : complementA (withHidden ime dot line ready fb s) =
    withHidden ime dot line ready fb (complementA s) := rfl

@[simp] theorem setCarry_withHidden : setCarry (withHidden ime dot line ready fb s) =
    withHidden ime dot line ready fb (setCarry s) := rfl

@[simp] theorem complementCarry_withHidden : complementCarry (withHidden ime dot line ready fb s) =
    withHidden ime dot line ready fb (complementCarry s) := rfl

@[simp] theorem rotateA_withHidden (op : RotOp) : rotateA op (withHidden ime dot line ready fb s) =
    withHidden ime dot line ready fb (rotateA op s) := rfl

@[simp] theorem rotateOp_withHidden (op : RotOp) (o : Operand8) : rotateOp op o (withHidden ime dot line ready fb s) =
    withHidden ime dot line ready fb (rotateOp op o s) := by
  simp [rotateOp]

@[simp] theorem testBit_withHidden (b : BitVec 3) (o : Operand8) : testBit b o (withHidden ime dot line ready fb s) =
    withHidden ime dot line ready fb (testBit b o s) := by
  simp [testBit]

@[simp] theorem clearBit_withHidden (b : BitVec 3) (o : Operand8) : clearBit b o (withHidden ime dot line ready fb s) =
    withHidden ime dot line ready fb (clearBit b o s) := by
  simp [clearBit]

@[simp] theorem setBit_withHidden (b : BitVec 3) (o : Operand8) : setBit b o (withHidden ime dot line ready fb s) =
    withHidden ime dot line ready fb (setBit b o s) := by
  simp [setBit]

@[simp] theorem jumpTo_withHidden (t : Word) : jumpTo t (withHidden ime dot line ready fb s) =
    withHidden ime dot line ready fb (jumpTo t s) := rfl

@[simp] theorem jumpRelative_withHidden (e : Byte) : jumpRelative e (withHidden ime dot line ready fb s) =
    withHidden ime dot line ready fb (jumpRelative e s) := rfl

@[simp] theorem callTo_withHidden (t : Word) : callTo t (withHidden ime dot line ready fb s) =
    withHidden ime dot line ready fb (callTo t s) :=
  congrArg (jumpTo t) (push16_withHidden ime dot line ready fb s s.pc)

@[simp] theorem returnPop_withHidden : returnPop (withHidden ime dot line ready fb s) =
    withHidden ime dot line ready fb (returnPop s) := rfl

/-! ### Instructions -/

/-- What an instruction that acts on a condition answers, when the two runs agree on the condition. -/
theorem cond_withHidden (b : Bool) {t u t' u' : State} (ht : t' = withHidden ime dot line ready fb t)
    (hu : u' = withHidden ime dot line ready fb u) :
    ∃ v ime', (if b = true then Host.Outcome.next t else .next u : Result) = .next v ∧
      (if b = true then Host.Outcome.next t' else .next u' : Result) = .next (withHidden ime' dot line ready fb v) := by
  subst ht hu
  cases b <;> exact ⟨_, ime, rfl, rfl⟩

/-- DI, EI and RETI write IME, whatever it was; the other instructions carry it along. -/
theorem exec_withHidden (i : Instr) : ∃ t ime', exec i s = .next t ∧
    exec i (withHidden ime dot line ready fb s) = .next (withHidden ime' dot line ready fb t) := by
  cases i with
  | di => exact ⟨_, false, rfl, rfl⟩
  | ei | reti => exact ⟨_, true, rfl, rfl⟩
  | jrNZE8 _ | jrZE8 _ | jrNCE8 _ | jrCE8 _ | jpNZA16 _ | jpZA16 _ | jpNCA16 _ | jpCA16 _ | callNZA16 _ | callZA16 _
  | callNCA16 _ | callCA16 _ | retNZ | retZ | retNC | retC =>
    exact cond_withHidden ime dot line ready fb _ (by simp) (by simp)
  | _ => exact ⟨_, ime, rfl, congrArg Host.Outcome.next (by simp)⟩

end

/-- Settles O49: the two runs answer states that differ in the hidden fields alone (`exec_withHidden`). -/
theorem executionIgnoresHiddenState : Obligations.ExecutionIgnoresHiddenState := by
  intro i s t ime dot line ready fb hexec
  obtain ⟨u, ime', hs, hhidden⟩ := exec_withHidden ime dot line ready fb s i
  obtain rfl : u = t := Host.Outcome.next.inj (hs.symm.trans hexec)
  exact ⟨_, hhidden, rfl⟩

end Sys2Proof.Proofs.HiddenState
end

section
/-! PROOFS. The write guard and word access (spec/20_memory.md R52 to R54, R57, R65, R69): no step changes a byte below
0x8000, and what a word reads as after it was written. -/

namespace Sys2Proof.Proofs.MemoryGuard

open Sys2Proof Sys2Proof.Machine

/-! ### Bytes below the boundary -/

/-- LY, the one byte the display writes, lies above the boundary. -/
theorem read8_ticks_rom (n : Nat) (s : State) {a : Word} (ha : a.toNat < 0x8000) : read8 a (ticks n s) = read8 a s :=
  (ticks_display n s).memory a fun hly => absurd ha (hly ▸ by decide)

theorem read8_effect_rom {s t : State} (heffect : Effect s t) {a : Word} (ha : a.toNat < 0x8000) :
    read8 a t = read8 a s := by
  obtain ⟨-, hrom, -⟩ := heffect.keeps
  exact hrom a ha

/-- Settles O47: of the three ways a step can go, the first changes nothing, and the other two are an instruction's
effect, the last with the ticks after it. -/
theorem stepKeepsRom : Obligations.StepKeepsRom := by
  intro k s t a ha hstep
  obtain ⟨-, rfl⟩ | ⟨-, u, heffect, ⟨-, rfl⟩ | ⟨-, rfl⟩⟩ := StepInvariant.stepWith_cases hstep
  · rfl
  · exact read8_effect_rom heffect ha
  · exact (read8_ticks_rom _ u ha).trans (read8_effect_rom heffect ha)

/-! ### A word read after it was written -/

/-- Each half is the byte written or, where the guard drops it, the byte that was there (R54). -/
theorem read16_write16 (addr v : Word) {s : State} (hm : s.mem.wf = true) :
    read16 addr (write16 addr v s) =
      wordOf (if (addr + 1).toNat < 0x8000 then read8 (addr + 1) s else hiByte v)
        (if addr.toNat < 0x8000 then read8 addr s else loByte v) := by
  rw [read16, read8_write16_high addr v s hm, read8_write16_low addr v s hm]

theorem write16_below (addr v : Word) (s : State) (h : addr.toNat < 0x7FFF) : write16 addr v s = s := by
  have hnext : (addr + 1).toNat < 0x8000 := by bv_omega
  rw [write16, write8_below addr _ s (by omega), write8_below _ _ s hnext]

/-- Settles O58: which halves of the word are stored depends on which of the two addresses lie below the boundary; the
second wraps to 0x0000 after 0xFFFF alone. -/
theorem wordWriteThenRead : Obligations.WordWriteThenRead := by
  intro a v s hm
  refine ⟨fun hlo hhi => ?_, ?_, ?_, write16_below a v s⟩
  · have hnext : ¬ (a + 1).toNat < 0x8000 := by bv_omega
    rw [read16_write16 a v hm, if_neg hnext, if_neg (Nat.not_lt.mpr hlo), wordOf_bytes]
  · rintro rfl
    exact read16_write16 0xFFFF v hm
  · rintro rfl
    exact read16_write16 0x7FFF v hm

end Sys2Proof.Proofs.MemoryGuard
end

section
/-! PROOFS. Decoding and encoding (spec/30_encoding.md R80 to R95): every cell of the two opcode maps holds the instruction
that the encoder's table gives the cell's byte (`primary_encodes`, `secondary_encodedAs`), so the decoder and the encoder
are inverse to each other; and what a step makes of the decoder's answer (R80, R82, R301). -/

namespace Sys2Proof.Proofs.Encoding

open Sys2Proof Sys2Proof.Machine

/-! ### A byte and its fields -/

/-- The byte with the given fields (R85 to R89). -/
def opcode (group : BitVec 2) (mid low : BitVec 3) : Byte := group ++ mid ++ low

theorem opcode_fields : ∀ op : Byte, opcode (fieldGroup op) (fieldMid op) (fieldLow op) = op := by decide

theorem fieldGroup_opcode : ∀ (group : BitVec 2) (mid low : BitVec 3), fieldGroup (opcode group mid low) = group := by
  decide

theorem fieldMid_opcode : ∀ (group : BitVec 2) (mid low : BitVec 3), fieldMid (opcode group mid low) = mid := by
  decide

theorem fieldLow_opcode : ∀ (group : BitVec 2) (mid low : BitVec 3), fieldLow (opcode group mid low) = low := by
  decide

theorem bitVec2_cases : ∀ g : BitVec 2, g = 0 ∨ g = 1 ∨ g = 2 ∨ g = 3 := by decide

theorem bitVec3_cases : ∀ b : BitVec 3, b = 0 ∨ b = 1 ∨ b = 2 ∨ b = 3 ∨ b = 4 ∨ b = 5 ∨ b = 6 ∨ b = 7 := by decide

/-! ### The cells of the two maps -/

/-- A well-formed instruction with these bytes as its encoding. -/
abbrev EncodedAs (i : Instr) (bytes : List Byte) : Prop := i.wf = true ∧ encode i = bytes

/-- What stands in the primary map at a byte: an instruction, or a form with an immediate, whose encoding begins with that
byte (R91); the secondary page; or STOP, whose second byte is not looked at (R254). -/
inductive Encodes : Byte → Shape → Prop
  | plain {op : Byte} {i : Instr} (h : EncodedAs i [op]) : Encodes op (.plain i)
  | byteImm {op : Byte} {f : Byte → Instr} (h : ∀ v, EncodedAs (f v) [op, v]) : Encodes op (.byteImm f)
  | wordImm {op : Byte} {f : Word → Instr} (h : ∀ w, EncodedAs (f w) [op, loByte w, hiByte w]) : Encodes op (.wordImm f)
  | cbPage : Encodes 0xCB .cbPage
  | stop : Encodes 0x10 (.padded .stop)

/-- Rows 0x to 3x: the shape of each of the 64 cells says which constructor holds, and the encoder's row is that cell. -/
theorem primaryLow_encodes (mid low : BitVec 3) : Encodes (opcode 0 mid low) (primaryLow mid low) := by
  obtain rfl | rfl | rfl | rfl | rfl | rfl | rfl | rfl := bitVec3_cases low
  all_goals obtain rfl | rfl | rfl | rfl | rfl | rfl | rfl | rfl := bitVec3_cases mid
  all_goals constructor <;> intros <;> exact ⟨rfl, rfl⟩

/-- Rows Cx to Fx, cell by cell as well. -/
theorem primaryHigh_encodes (mid low : BitVec 3) : Encodes (opcode 3 mid low) (primaryHigh mid low) := by
  obtain rfl | rfl | rfl | rfl | rfl | rfl | rfl | rfl := bitVec3_cases low
  all_goals obtain rfl | rfl | rfl | rfl | rfl | rfl | rfl | rfl := bitVec3_cases mid
  all_goals constructor <;> intros <;> exact ⟨rfl, rfl⟩

theorem ldInstr_encodedAs : ∀ dst src : BitVec 3,
    EncodedAs (ldInstr (operand8 dst) (operand8 src)) [opcode 1 dst src] := by decide

theorem aluInstr_encodedAs : ∀ op src : BitVec 3,
    EncodedAs (aluInstr (aluOf op) (operand8 src)) [opcode 2 op src] := by decide

/-- The primary map agrees with the encoder, group by group (R91). -/
theorem primary_encodes (op : Byte) : Encodes op (primary op) := by
  rw [← opcode_fields op]
  generalize fieldMid op = mid, fieldLow op = low
  obtain hg | hg | hg | hg := bitVec2_cases (fieldGroup op)
  all_goals simp only [primary, hg, fieldGroup_opcode, fieldMid_opcode, fieldLow_opcode]
  · exact primaryLow_encodes mid low
  · exact .plain (ldInstr_encodedAs mid low)
  · exact .plain (aluInstr_encodedAs mid low)
  · exact primaryHigh_encodes mid low

/-- The secondary map agrees with the encoder. Its instructions have no operand outside the byte, so the 256 rows of the
two tables can be compared as they are (R92). -/
theorem secondary_encodedAs : ∀ op2 : Byte, EncodedAs (secondary op2) [0xCB, op2] := by decide

/-! ### The decoder of the reference set -/

section
variable {op : Byte} {rest tail : List Byte} {i j : Instr} {f : Byte → Instr} {g : Word → Instr}

theorem decode_plain (hop : primary op = .plain i) : decode (op :: rest) = .ok (i, rest) :=
  decodeWith_plain _ op i rest hop

theorem decode_byteImm (hop : primary op = .byteImm f) (v : Byte) : decode (op :: v :: rest) = .ok (f v, rest) :=
  decodeWith_byteImm _ op v f rest hop

theorem decode_wordBytes (hop : primary op = .wordImm g) (lo hi : Byte) :
    decode (op :: lo :: hi :: rest) = .ok (g (wordOf hi lo), rest) :=
  decodeWith_wordImm _ op lo hi g rest hop

theorem decode_padded (hop : primary op = .padded i) : decode (op :: rest) = .ok (i, rest.drop 1) :=
  decodeWith_padded _ op i rest hop

theorem decode_cbPage (op2 : Byte) : decode (0xCB :: op2 :: rest) = .ok (secondary op2, rest) :=
  decodeWith_cbPage _ op2 rest

theorem decode_of_secondary {op2 : Byte} (h : secondary op2 = i) : decode (0xCB :: op2 :: rest) = .ok (i, rest) :=
  h ▸ decode_cbPage op2

/-- An immediate byte is decoded only where one is there. -/
theorem byteImm_of_decode (hop : primary op = .byteImm f) (h : decode (op :: tail) = .ok (j, rest)) :
    ∃ v, j = f v ∧ tail = v :: rest := by
  match tail with
  | [] => simp [decode, decodeWith, hop, Config.referenceInterpreter] at h
  | v :: _ =>
    rw [decode_byteImm hop] at h
    cases h
    exact ⟨v, rfl, rfl⟩

/-- An immediate word is decoded only where two bytes are there. -/
theorem wordImm_of_decode (hop : primary op = .wordImm g) (h : decode (op :: tail) = .ok (j, rest)) :
    ∃ w, j = g w ∧ tail = loByte w :: hiByte w :: rest := by
  match tail with
  | [] | [_] => simp [decode, decodeWith, hop, Config.referenceInterpreter] at h
  | lo :: hi :: _ =>
    rw [decode_wordBytes hop] at h
    cases h
    exact ⟨wordOf hi lo, rfl, by rw [loByte_wordOf, hiByte_wordOf]⟩

/-- The 0xCB byte is decoded only where a second byte is there (R256). -/
theorem cbPage_of_decode (h : decode (0xCB :: tail) = .ok (j, rest)) :
    ∃ op2, j = secondary op2 ∧ tail = op2 :: rest := by
  match tail with
  | [] => cases h
  | op2 :: _ =>
    rw [decode_cbPage] at h
    cases h
    exact ⟨op2, rfl, rfl⟩

end

/-! ### Decoding and encoding are inverse -/

/-- Settles O39: the first byte leads to the instruction's own cell of the primary map; a word immediate is put together
again from its halves, and a bit number comes back out of bits 5:3 of the second byte. -/
theorem decodeOfEncode : Obligations.DecodeOfEncode := by
  intro i rest hwf
  cases i with
  | prefixCb _ => cases hwf
  | ldBCD16 w | ldDED16 w | ldHLD16 w | ldSPD16 w | ldIndA16SP w | ldIndA16A w | ldAIndA16 w
  | jpA16 w | jpNZA16 w | jpZA16 w | jpNCA16 w | jpCA16 w
  | callA16 w | callNZA16 w | callZA16 w | callNCA16 w | callCA16 w => exact decode_wordImm _ w _ rest rfl
  | bitB b | bitC b | bitD b | bitE b | bitH b | bitL b | bitIndHL b | bitA b
  | resB b | resC b | resD b | resE b | resH b | resL b | resIndHL b | resA b
  | setB b | setC b | setD b | setE b | setH b | setL b | setIndHL b | setA b =>
    exact decode_of_secondary (by revert b; decide)
  | _ => rfl

/-- Settles O40: the cell of the first byte says what the encoding is (`primary_encodes`), and what the decoder answers for
the cell says which bytes were there. -/
theorem encodeOfDecode : Obligations.EncodeOfDecode := by
  intro bytes rest i hdecode hstop
  match bytes with
  | [] => cases hdecode
  | op :: tail =>
    have hcell := primary_encodes op
    generalize hop : primary op = shape at hcell
    cases hcell with
    | plain henc =>
      cases (decode_plain hop).symm.trans hdecode
      exact ⟨henc.1, by rw [henc.2]; rfl⟩
    | byteImm henc =>
      obtain ⟨v, rfl, rfl⟩ := byteImm_of_decode hop hdecode
      exact ⟨(henc v).1, by rw [(henc v).2]; rfl⟩
    | wordImm henc =>
      obtain ⟨w, rfl, rfl⟩ := wordImm_of_decode hop hdecode
      exact ⟨(henc w).1, by rw [(henc w).2]; rfl⟩
    | cbPage =>
      obtain ⟨op2, rfl, rfl⟩ := cbPage_of_decode hdecode
      exact ⟨(secondary_encodedAs op2).1, by rw [(secondary_encodedAs op2).2]; rfl⟩
    | stop =>
      cases (decode_padded hop).symm.trans hdecode
      exact absurd rfl hstop

/-! ### Length -/

theorem lengthOf_range (op : Byte) : 1 ≤ lengthOf op ∧ lengthOf op ≤ 3 := by
  unfold lengthOf
  split <;> decide

theorem decode_of_three_bytes (op b1 b2 : Byte) (rest : List Byte) : ∃ i, i.wf = true ∧
    decode (op :: b1 :: b2 :: rest) = .ok (i, (op :: b1 :: b2 :: rest).drop (lengthOf op)) := by
  have hcell := primary_encodes op
  generalize hop : primary op = shape at hcell
  cases hcell with
  | plain henc => exact ⟨_, henc.1, by rw [decode_plain hop, lengthOf, hop]; rfl⟩
  | byteImm henc => exact ⟨_, (henc b1).1, by rw [decode_byteImm hop, lengthOf, hop]; rfl⟩
  | wordImm henc => exact ⟨_, (henc (wordOf b2 b1)).1, by rw [decode_wordBytes hop, lengthOf, hop]; rfl⟩
  | cbPage => exact ⟨_, (secondary_encodedAs b1).1, decode_cbPage b1⟩
  | stop => exact ⟨.stop, rfl, rfl⟩

/-- Settles O41: the cell of the first byte alone says how many bytes are dropped. -/
theorem decodeTotalWithLength : Obligations.DecodeTotalWithLength := by
  intro op b1 b2 rest
  obtain ⟨i, hwf, hdecode⟩ := decode_of_three_bytes op b1 b2 rest
  obtain ⟨hmin, hmax⟩ := lengthOf_range op
  refine ⟨i, _, hdecode, hwf, rfl, ?_, hmin, hmax, ?_⟩
  · simp only [List.length_drop, List.length_cons]
    omega
  · rintro rfl
    rfl

/-- Settles O42: each word is the encoding of its instruction, so it decodes to it. -/
theorem sampleWordsDecode : Obligations.SampleWordsDecode :=
  ⟨decodeOfEncode .ldAB [] rfl, decodeOfEncode (.ldAD8 0x05) [] rfl, decodeOfEncode (.ldSPD16 0xFFFE) [] rfl,
    decodeOfEncode .sbcAH [] rfl, decodeOfEncode .addHLHL [] rfl, decodeOfEncode (.jpCA16 0x1234) [] rfl,
    decodeOfEncode .rst38 [] rfl, decodeOfEncode .swapA [] rfl, decodeOfEncode (.bitH 7) [] rfl,
    decodeOfEncode .pushDE [] rfl⟩

/-! ### The step and the decoder -/

section
variable {k : Config.Interpreter} {s t : State} {i : Instr} {rest : List Byte}

theorem stepWith_of_decode_error {e : DecodeError} (hfault : s.fault = none)
    (h : decodeWith k (fetchBytes s) = .error e) :
    stepWith k s = .next (raiseUnimplemented (reportedBytes e) s) := by
  simp only [stepWith, hfault, runInstr, h]

theorem stepWith_of_decode_ok (hfault : s.fault = none) (h : decodeWith k (fetchBytes s) = .ok (i, rest)) :
    stepWith k s = settle s (exec i s) := by
  simp only [stepWith, hfault, runInstr, h]

/-- A left-out byte is looked for before any immediate (R82). -/
theorem decodeWith_leftOut {op : Byte} (hcb : op ≠ 0xCB) (hstop : op ≠ 0x10) (h : op ∈ k.leftOutPrimary) :
    decodeWith k (op :: rest) = .error (.notImplemented op) := by
  have hleft : k.leftOutPrimary.contains op = true := List.contains_iff_mem.mpr h
  cases hop : primary op with
  | plain i | byteImm f | wordImm f => simp only [decodeWith, hop, hleft, if_true]
  | cbPage => exact absurd (primary_cbPage op hop) hcb
  | padded i => exact absurd (primary_padded op i hop).1 hstop

theorem settle_next : settle s (.next t) = .next (if t.fault = none then ticks (t.cycles - s.cycles) t else t) := by
  cases hfault : t.fault with
  | none => simp [settle, owedTicks, hfault]
  | some r => simp [settle, hfault]

end

/-- Settles O37: a left-out byte is a decode failure that reports it, unless it is STOP, which raises the same record by
itself (R254); a left-out byte after 0xCB is decoded to `prefixCb`, which reports both bytes. -/
theorem leftOutOpcodeEndsRun : Obligations.LeftOutOpcodeEndsRun := by
  intro k s hfault
  refine ⟨fun hcb hleft => ?_, fun hcb hleft => ?_⟩
  · by_cases hstop : read8 s.pc s = 0x10
    · have hdecode : decodeWith k (fetchBytes s) = .ok (.stop, [read8 (s.pc + 2) s]) := by
        rw [fetchBytes, hstop]
        exact decodeWith_padded k 0x10 .stop _ rfl
      rw [stepWith_of_decode_ok hfault hdecode, hstop]
      rfl
    · exact stepWith_of_decode_error hfault (decodeWith_leftOut hcb hstop hleft)
  · have hdecode : decodeWith k (fetchBytes s) = .ok (.prefixCb (read8 (s.pc + 1) s), [read8 (s.pc + 2) s]) := by
      rw [fetchBytes, hcb, decodeWith_cbPage, if_pos (List.contains_iff_mem.mpr hleft)]
    exact stepWith_of_decode_ok hfault hdecode

/-- Settles O43: the step runs the decoded instruction, and the display owes as many ticks as cycles were added. -/
theorem stepRunsDecodedInstruction : Obligations.StepRunsDecodedInstruction := by
  intro k s t i rest hfault hdecode hexec
  rw [stepWith_of_decode_ok hfault hdecode, hexec, settle_next]

end Sys2Proof.Proofs.Encoding
end

section
/-! PROOFS. 8-bit loads and stores (spec/40_load8.md R101 to R119). `Laws/Exec.lean` and the `exec_…` lemmas here say which
operation a form runs after `retire`; what that operation delivers, and its frame, are said once for each operation. -/

namespace Sys2Proof.Proofs.Load8

open Sys2Proof Sys2Proof.Machine Sys2Proof.Safety

/-! ### A byte goes to an operand -/

theorem setOp8_flagsAndStackKept (o : Operand8) (v : Byte) (len cost : Nat) (s : State) :
    FlagsAndStackKept s (setOp8 o v (retire len cost s)) := by
  constructor <;> simp

theorem setOp8_retires (o : Operand8) (v : Byte) (len cost : Nat) (s : State) :
    Retires len cost s (setOp8 o v (retire len cost s)) := by
  constructor <;> simp

theorem setOp8_retire_delivers (o : Operand8) (v : Byte) (len cost : Nat) {s : State} (hm : s.mem.wf = true) :
    Delivers o v s (setOp8 o v (retire len cost s)) :=
  delivers_around o v s _ _ len cost (setOp8_delivers o v (retire len cost s) hm) (fun _ => rfl) rfl rfl
    (deviceKept_refl _)

/-- A register is written whatever form memory has. -/
theorem setReg8_retire_frame (r : Reg8) (v : Byte) (len cost : Nat) (s : State) :
    RegisterFrame [r] s (setReg8 r v (retire len cost s)) where
  regs q hq := by
    rw [getReg8_setReg8_other q r v _ (List.ne_of_not_mem_cons hq), getReg8_retire]
  memory a := by simp
  ime := by simp
  device := by constructor <;> simp

/-- The source operand is read as it was before the instruction. -/
theorem load8_retire (dst src : Operand8) (len cost : Nat) (s : State) :
    load8 dst src (retire len cost s) = setOp8 dst (op8 src s) (retire len cost s) := by
  rw [load8, op8_retire]

/-- What a load from any operand into a register does. -/
theorem load8_toReg (dst : Reg8) (src : Operand8) (len cost : Nat) (s : State) :
    getReg8 dst (load8 (.reg dst) src (retire len cost s)) = op8 src s ∧
      RegisterFrame [dst] s (load8 (.reg dst) src (retire len cost s)) ∧
      FlagsAndStackKept s (load8 (.reg dst) src (retire len cost s)) ∧
      Retires len cost s (load8 (.reg dst) src (retire len cost s)) := by
  rw [load8_retire]
  exact ⟨getReg8_setReg8_same dst _ _, setReg8_retire_frame dst _ len cost s,
    setOp8_flagsAndStackKept (.reg dst) _ len cost s, setOp8_retires (.reg dst) _ len cost s⟩

/-- Settles O1: `LD r,r'` is a load into a register, from a register operand. -/
theorem loadCopiesRegister : Obligations.LoadCopiesRegister := fun dst src s =>
  ⟨_, exec_ld (.reg dst) (.reg src) (by simp) s, load8_toReg dst (.reg src) 1 4 s⟩

/-- Settles O2: the immediate is delivered to the operand, and F, SP, PC and the cycle total follow the same for both. -/
theorem loadImmediateDelivers : Obligations.LoadImmediateDelivers := fun o v s hm =>
  ⟨_, exec_ldImm o v s, setOp8_retire_delivers o v 2 (costFor o 8 12) hm,
    setOp8_flagsAndStackKept o v 2 (costFor o 8 12) s, setOp8_retires o v 2 (costFor o 8 12) s⟩

/-- Settles O3: `LD r,(HL)` is a load into a register as well; the operand is read before H or L is written. -/
theorem loadRegisterFromMemoryAtHL : Obligations.LoadRegisterFromMemoryAtHL := fun dst s =>
  ⟨_, exec_ld (.reg dst) .hlMem (by simp) s, load8_toReg dst .hlMem 1 8 s⟩

/-- Settles O4: delivering to memory at HL is a guarded store with every register kept. -/
theorem storeRegisterToMemoryAtHL : Obligations.StoreRegisterToMemoryAtHL := by
  intro r s hm
  refine ⟨_, exec_ld .hlMem (.reg r) (by simp) s, ?_⟩
  rw [load8_retire]
  obtain ⟨hstores, hframe⟩ : Delivers .hlMem (getReg8 r s) s _ := setOp8_retire_delivers .hlMem _ 1 8 hm
  exact ⟨hstores, hframe, setOp8_flagsAndStackKept .hlMem _ 1 8 s, setOp8_retires .hlMem _ 1 8 s⟩

/-! ### A and memory -/

/-- The forms that load A and leave HL alone, each at its own address (R106, R107, R110, R112, R114). -/
theorem exec_loadA_forms (s : State) (w : Word) (n : Byte) (form : Instr × Word × Nat × Nat)
    (h : form ∈ [(Instr.ldAIndBC, getPair .bc s, 1, 8), (.ldAIndDE, getPair .de s, 1, 8), (.ldAIndA16 w, w, 3, 16),
      (.ldhAIndA8 n, BitVec.ofNat 16 (0xFF00 + n.toNat), 2, 12),
      (.ldAIndC, BitVec.ofNat 16 (0xFF00 + s.c.toNat), 1, 8)]) :
    exec form.1 s = .next (loadA form.2.1 (retire form.2.2.1 form.2.2.2 s)) := by
  simp only [← ioAddr_eq, List.mem_cons, List.not_mem_nil, or_false] at h
  obtain rfl | rfl | rfl | rfl | rfl := h <;> rfl

/-- The forms that store A and leave HL alone, each at its own address (R108, R109, R111, R113, R115). -/
theorem exec_storeA_forms (s : State) (w : Word) (n : Byte) (form : Instr × Word × Nat × Nat)
    (h : form ∈ [(Instr.ldIndBCA, getPair .bc s, 1, 8), (.ldIndDEA, getPair .de s, 1, 8), (.ldIndA16A w, w, 3, 16),
      (.ldhIndA8A n, BitVec.ofNat 16 (0xFF00 + n.toNat), 2, 12),
      (.ldIndCA, BitVec.ofNat 16 (0xFF00 + s.c.toNat), 1, 8)]) :
    exec form.1 s = .next (storeA form.2.1 (retire form.2.2.1 form.2.2.2 s)) := by
  simp only [← ioAddr_eq, List.mem_cons, List.not_mem_nil, or_false] at h
  obtain rfl | rfl | rfl | rfl | rfl := h <;> rfl

/-- Settles O5: each form is a load of A at its own address. -/
theorem loadAccumulatorFromMemory : Obligations.LoadAccumulatorFromMemory := fun s w n form hform =>
  ⟨_, exec_loadA_forms s w n form hform, loadA_frame form.2.1 form.2.2.1 form.2.2.2 s⟩

/-- Settles O6: each form is a guarded store of A at its own address. -/
theorem storeAccumulatorToMemory : Obligations.StoreAccumulatorToMemory := fun s w n hm form hform =>
  ⟨_, exec_storeA_forms s w n form hform, storeA_frame form.2.1 form.2.2.1 form.2.2.2 s hm⟩

/-! ### A pair is written after a load or a store -/

section
variable {x : List Reg8} {s t : State}

theorem regsKept_setPair (p : Pair) (v : Word) (h : RegsKept x s t) : RegsKept (x ++ halves p) s (setPair p v t) := by
  intro q hq
  rw [List.mem_append, not_or] at hq
  rw [getReg8_setPair_other q p v t hq.2, h q hq.1]

theorem deviceKept_setPair (p : Pair) (v : Word) (h : DeviceKept s t) : DeviceKept s (setPair p v t) := by
  obtain ⟨hdot, hline, hready, hfb, hfault⟩ := h
  constructor <;> simpa

theorem registerFrame_setPair (p : Pair) (v : Word) (h : RegisterFrame x s t) :
    RegisterFrame (x ++ halves p) s (setPair p v t) where
  regs := regsKept_setPair p v h.regs
  memory a := (read8_setPair a p v t).trans (h.memory a)
  ime := (setPair_ime p v t).trans h.ime
  device := deviceKept_setPair p v h.device

theorem storeFrame_setPair (p : Pair) (v : Word) (h : StoreFrame x s t) :
    StoreFrame (x ++ halves p) s (setPair p v t) where
  regs := regsKept_setPair p v h.regs
  ime := (setPair_ime p v t).trans h.ime
  device := deviceKept_setPair p v h.device

theorem storesByte_setPair (p : Pair) (v : Word) {addr : Word} {b : Byte} (h : StoresByte addr b s t) :
    StoresByte addr b s (setPair p v t) where
  stored := (read8_setPair addr p v t).trans h.stored
  others a ha := (read8_setPair a p v t).trans (h.others a ha)

theorem flagsAndStackKept_setPair {p : Pair} (hp : p ≠ .sp) (v : Word) (h : FlagsAndStackKept s t) :
    FlagsAndStackKept s (setPair p v t) where
  f := (setPair_f p v t).trans h.f
  sp := (setPair_sp_of_ne p v t hp).trans h.sp

theorem retires_setPair (p : Pair) (v : Word) {len cost : Nat} (h : Retires len cost s t) :
    Retires len cost s (setPair p v t) where
  pc := (setPair_pc p v t).trans h.pc
  cycles := (setPair_cycles p v t).trans h.cycles

end

/-! ### The forms that move HL on -/

/-- HL moves on from its old value, which the load of A does not touch (R118, R119). -/
theorem exec_loadA_stepHL (s : State) (form : Instr × Word)
    (h : form ∈ [(Instr.ldAIndHLInc, getPair .hl s + 1), (.ldAIndHLDec, getPair .hl s - 1)]) :
    exec form.1 s = .next (setPair .hl form.2 (loadA (getPair .hl s) (retire 1 8 s))) := by
  simp only [List.mem_cons, List.not_mem_nil, or_false] at h
  obtain rfl | rfl := h <;> rfl

theorem getPair_storeA (p : Pair) (addr : Word) (len cost : Nat) (s : State) :
    getPair p (storeA addr (retire len cost s)) = getPair p s := by
  rw [storeA, getPair_write8, getPair_retire]

theorem incPair_storeA (p : Pair) (addr : Word) (len cost : Nat) (s : State) :
    incPair p (storeA addr (retire len cost s)) = setPair p (getPair p s + 1) (storeA addr (retire len cost s)) := by
  rw [incPair, getPair_storeA]

theorem decPair_storeA (p : Pair) (addr : Word) (len cost : Nat) (s : State) :
    decPair p (storeA addr (retire len cost s)) = setPair p (getPair p s - 1) (storeA addr (retire len cost s)) := by
  rw [decPair, getPair_storeA]

/-- HL moves on from its old value, which the store does not touch, be it dropped or not (R116, R117). -/
theorem exec_storeA_stepHL (s : State) (form : Instr × Word)
    (h : form ∈ [(Instr.ldIndHLIncA, getPair .hl s + 1), (.ldIndHLDecA, getPair .hl s - 1)]) :
    exec form.1 s = .next (setPair .hl form.2 (storeA (getPair .hl s) (retire 1 8 s))) := by
  simp only [List.mem_cons, List.not_mem_nil, or_false] at h
  obtain rfl | rfl := h
  · exact congrArg Host.Outcome.next (incPair_storeA .hl (getPair .hl s) 1 8 s)
  · exact congrArg Host.Outcome.next (decPair_storeA .hl (getPair .hl s) 1 8 s)

/-- Settles O7: the guarded store of A, and then a write of HL. -/
theorem storeAccumulatorAndStepHL : Obligations.StoreAccumulatorAndStepHL := by
  intro s hm form hform
  obtain ⟨hstores, hframe, hkept, hretires⟩ := storeA_frame (getPair .hl s) 1 8 s hm
  exact ⟨_, exec_storeA_stepHL s form hform, storesByte_setPair .hl _ hstores, getPair_setPair_same .hl _ _,
    storeFrame_setPair .hl _ hframe, flagsAndStackKept_setPair (by decide) _ hkept, retires_setPair .hl _ hretires⟩

/-- Settles O8: the load of A, and then a write of HL, which keeps A. -/
theorem loadAccumulatorAndStepHL : Obligations.LoadAccumulatorAndStepHL := by
  intro s form hform
  obtain ⟨ha, hframe, hkept, hretires⟩ := loadA_frame (getPair .hl s) 1 8 s
  exact ⟨_, exec_loadA_stepHL s form hform, (setPair_a .hl _ _).trans ha, getPair_setPair_same .hl _ _,
    registerFrame_setPair .hl _ hframe, flagsAndStackKept_setPair (by decide) _ hkept, retires_setPair .hl _ hretires⟩

end Sys2Proof.Proofs.Load8
end

section
/-! PROOFS. 16-bit loads and the stack (spec/41_load16_stack.md R130 to R136), `ADD SP,e8` (spec/43_alu16.md R193). SP
is written as the pair `sp`, so the lemmas about `setPair` speak for Push16 and Pop16 too. -/

namespace Sys2Proof.Proofs.Load16

open Sys2Proof Sys2Proof.Machine Sys2Proof.Safety
open Sys2Proof.Proofs.Load8 (registerFrame_setPair storeFrame_setPair retires_setPair)

theorem retires_retire (len cost : Nat) (s : State) : Retires len cost s (retire len cost s) := ⟨rfl, rfl⟩

/-! ### An immediate word, or HL, goes to a pair -/

/-- What writing a pair does to the pair, F, PC and the cycle total, and what it leaves unchanged. -/
theorem setPair_retire (p : Pair) (v : Word) (len cost : Nat) (s : State) :
    getPair p (setPair p v (retire len cost s)) = v ∧
      RegisterFrame (halves p) s (setPair p v (retire len cost s)) ∧
      (setPair p v (retire len cost s)).f = s.f ∧ Retires len cost s (setPair p v (retire len cost s)) :=
  ⟨getPair_setPair_same p v _, frame_setPair p v len cost s, setPair_f p v _,
    retires_setPair p v (retires_retire len cost s)⟩

/-- Settles O9: all five forms write a pair; only a write of the pair SP changes SP. -/
theorem loadPairWritesBothHalves : Obligations.LoadPairWritesBothHalves := by
  refine ⟨fun p v s => ?_, fun s => ⟨_, rfl, setPair_retire .sp (getPair .hl s) 1 8 s⟩⟩
  obtain ⟨hpair, hframe, hf, hretires⟩ := setPair_retire p v 3 12 s
  exact ⟨_, exec_ldPair p v s, hpair, hframe, hf, setPair_sp_of_ne p v _, hretires⟩

/-! ### SP plus a signed displacement -/

/-- A sum with a sign-extended byte, in exact arithmetic. -/
theorem toNat_add_sext16 (w : Word) (e : Byte) :
    ((w + sext16 e).toNat : Int) = ((w.toNat : Int) + e.toInt) % 65536 := by
  have hext : (sext16 e).toInt = e.toInt := BitVec.toInt_signExtend_of_le (by decide)
  rw [← hext, BitVec.toInt_eq_toNat_cond, BitVec.toNat_add]
  split <;> omega

/-- The common form of `LD HL,SP+e8` and `ADD SP,e8`: the sum goes to a pair, and all four flags are written. -/
def offsetInto (p : Pair) (e : Byte) (s : State) : State :=
  putFlags (some false) (some false) (some (offsetAdd s.sp e).h) (some (offsetAdd s.sp e).c)
    (setPair p (offsetAdd s.sp e).res s)

theorem exec_ldHLSPE8 (e : Byte) (s : State) : exec (.ldHLSPE8 e) s = .next (offsetInto .hl e (retire 2 12 s)) := rfl

theorem exec_addSPE8 (e : Byte) (s : State) : exec (.addSPE8 e) s = .next (offsetInto .sp e (retire 2 16 s)) := rfl

section
variable (p : Pair) (e : Byte) (len cost : Nat) (s : State)

theorem getPair_offsetInto : getPair p (offsetInto p e s) = s.sp + sext16 e := by
  rw [offsetInto, getPair_putFlags, getPair_setPair_same, offsetAdd]

/-- H and C look at the raw byte and the low byte of SP; bits 3..0 of F are kept. -/
theorem offsetInto_reads :
    FlagsRead false false (decide (s.sp.toNat % 16 + e.toNat % 16 > 15)) (decide (s.sp.toNat % 256 + e.toNat > 255))
      (s.f &&& 0x0F) (offsetInto p e (retire len cost s)) := by
  have h := putFlags_reads (some false) (some false) (some (offsetAdd s.sp e).h) (some (offsetAdd s.sp e).c)
    (setPair p (offsetAdd s.sp e).res (retire len cost s))
  rwa [setPair_f] at h

theorem offsetInto_frame : RegisterFrame (halves p) s (offsetInto p e (retire len cost s)) :=
  frame_putFlags _ _ _ _ _ _ _ (frame_setPair p _ len cost s)

theorem offsetInto_retires : Retires len cost s (offsetInto p e (retire len cost s)) := by
  constructor <;> simp [offsetInto]

theorem offsetInto_sp_of_ne (hp : p ≠ .sp) : (offsetInto p e s).sp = s.sp := setPair_sp_of_ne p _ s hp

/-- What both instructions deliver, in exact arithmetic, and what they leave unchanged. -/
theorem offsetInto_retire :
    ((getPair p (offsetInto p e (retire len cost s))).toNat : Int) = ((s.sp.toNat : Int) + e.toInt) % 65536 ∧
      FlagsRead false false (decide (s.sp.toNat % 16 + e.toNat % 16 > 15))
        (decide (s.sp.toNat % 256 + e.toNat > 255)) (s.f &&& 0x0F) (offsetInto p e (retire len cost s)) ∧
      RegisterFrame (halves p) s (offsetInto p e (retire len cost s)) ∧
      Retires len cost s (offsetInto p e (retire len cost s)) := by
  refine ⟨?_, offsetInto_reads p e len cost s, offsetInto_frame p e len cost s, offsetInto_retires p e len cost s⟩
  rw [getPair_offsetInto, retire_sp, toNat_add_sext16]

end

/-- Settles O11: one operation with two targets; SP is written by the form whose target it is. -/
theorem stackPointerOffset : Obligations.StackPointerOffset := by
  refine fun e s => ⟨?_, ⟨_, exec_addSPE8 e s, offsetInto_retire .sp e 2 16 s⟩⟩
  obtain ⟨hsum, hrest⟩ := offsetInto_retire .hl e 2 12 s
  exact ⟨_, exec_ldHLSPE8 e s, hsum, offsetInto_sp_of_ne .hl e _ (by decide), hrest⟩

/-! ### A word is stored -/

section
variable {x : List Reg8} {s t : State}

theorem storeFrame_of_registerFrame (h : RegisterFrame x s t) : StoreFrame x s t := ⟨h.regs, h.ime, h.device⟩

theorem storeFrame_write16 (addr v : Word) (h : StoreFrame x s t) : StoreFrame x s (write16 addr v t) where
  regs q hq := (getReg8_write16 q addr v t).trans (h.regs q hq)
  ime := (write16_ime addr v t).trans h.ime
  device := by
    obtain ⟨hdot, hline, hready, hfb, hfault⟩ := h.device
    constructor <;> simpa

theorem retires_write16 (addr v : Word) {len cost : Nat} (h : Retires len cost s t) :
    Retires len cost s (write16 addr v t) where
  pc := (write16_pc addr v t).trans h.pc
  cycles := (write16_cycles addr v t).trans h.cycles

theorem storesWord_write16_of_mem (addr v : Word) (hm : s.mem.wf = true) (h : t.mem = s.mem) :
    StoresWord addr v s (write16 addr v t) :=
  storesWord_from addr v s t _ (storesWord_write16 addr v t (h ▸ hm)) h

end

theorem exec_ldIndA16SP (a : Word) (s : State) : exec (.ldIndA16SP a) s = .next (write16 a s.sp (retire 3 20 s)) := rfl

/-- Settles O10: a guarded word store and nothing else. -/
theorem storeStackPointer : Obligations.StoreStackPointer := fun a s hm =>
  ⟨_, exec_ldIndA16SP a s, storesWord_write16_of_mem a s.sp hm rfl,
    storeFrame_write16 a s.sp (storeFrame_of_registerFrame (frame_retire 3 20 s)),
    ⟨write16_f a s.sp _, write16_sp a s.sp _⟩, retires_write16 a s.sp (retires_retire 3 20 s)⟩

/-! ### The stack -/

/-- Push16 writes SP and then stores the word there (R60). -/
theorem push16_eq (v : Word) (s : State) : push16 v s = write16 (s.sp - 2) v (setPair .sp (s.sp - 2) s) := rfl

theorem pushPair_retire (p : StackPair) (len cost : Nat) (s : State) :
    pushPair p (retire len cost s) =
      write16 (s.sp - 2) (getStackPair p s) (setPair .sp (s.sp - 2) (retire len cost s)) := by
  rw [pushPair, getStackPair_retire, push16_eq, retire_sp]

/-- Settles O12: a write of SP, and then a guarded word store at the new SP. -/
theorem pushStoresPair : Obligations.PushStoresPair := by
  intro p s hm
  refine ⟨_, exec_push p s, ?_⟩
  rw [pushPair_retire]
  obtain ⟨hsp, hframe, hf, hretires⟩ := setPair_retire .sp (s.sp - 2) 1 16 s
  exact ⟨(write16_sp _ _ _).trans hsp, storesWord_write16_of_mem _ _ hm (setPair_mem .sp _ _),
    storeFrame_write16 _ _ (storeFrame_of_registerFrame hframe), (write16_f _ _ _).trans hf,
    retires_write16 _ _ hretires⟩

theorem hiByte_popValue (s : State) : hiByte (popValue s) = read8 (s.sp + 1) s := hiByte_wordOf _ _

theorem loByte_popValue (s : State) : loByte (popValue s) = read8 s.sp s := loByte_wordOf _ _

/-- Pop16 reads the word at the old SP and writes SP (R61); the word then goes to the stack pair. -/
theorem popPair_retire (p : StackPair) (len cost : Nat) (s : State) :
    popPair p (retire len cost s) = setStackPair p (popValue s) (setPair .sp (s.sp + 2) (retire len cost s)) := rfl

section
variable {x : List Reg8} {s t : State}

theorem registerFrame_setStackPair (p : StackPair) (v : Word) (h : RegisterFrame x s t) :
    RegisterFrame (x ++ stackHalves p) s (setStackPair p v t) where
  regs q hq := by
    rw [List.mem_append, not_or] at hq
    rw [getReg8_setStackPair_other q p v t hq.2, h.regs q hq.1]
  memory a := (read8_setStackPair a p v t).trans (h.memory a)
  ime := (setStackPair_ime p v t).trans h.ime
  device := by
    obtain ⟨hdot, hline, hready, hfb, hfault⟩ := h.device
    constructor <;> simpa

theorem retires_setStackPair (p : StackPair) (v : Word) {len cost : Nat} (h : Retires len cost s t) :
    Retires len cost s (setStackPair p v t) where
  pc := (setStackPair_pc p v t).trans h.pc
  cycles := (setStackPair_cycles p v t).trans h.cycles

end

/-- Settles O13: a write of SP, and then one of the stack pair with the bytes read at the old SP. -/
theorem popLoadsPair : Obligations.PopLoadsPair := by
  intro p s
  refine ⟨_, exec_pop p s, ?_⟩
  rw [popPair_retire, getStackPair_setStackPair, hiByte_wordOf, loByte_wordOf, hiByte_popValue, loByte_popValue]
  obtain ⟨hsp, hframe, hf, hretires⟩ := setPair_retire .sp (s.sp + 2) 1 12 s
  exact ⟨(setStackPair_sp p _ _).trans hsp, rfl, rfl, fun hp => (setStackPair_f_of_ne p _ _ hp).trans hf,
    registerFrame_setStackPair p _ hframe, retires_setStackPair p _ hretires⟩

end Sys2Proof.Proofs.Load16
end

section
/-! PROOFS. 8-bit arithmetic and logic (spec/42_alu8.md R150 to R184). What an ALU operation leaves is said once for all
operations that write A (`aluApply_retire`), and what a write of some flags leaves once for the others
(`putFlags_outcome`); the results in exact arithmetic are facts about `alu`, `daa` and bytes. -/

namespace Sys2Proof.Proofs.Alu8

open Sys2Proof Sys2Proof.Machine Sys2Proof.Safety
open Sys2Proof.Proofs.Load8 (setOp8_flagsAndStackKept setOp8_retires setReg8_retire_frame)
open Sys2Proof.Proofs.Load16 (retires_retire)

/-! ### The results of the ALU operations -/

/-- Every ALU operation sets Z exactly when its result is 0 (R150 to R152). -/
theorem alu_z (op : AluOp) (a b : Byte) (carry : Bool) :
    (alu op a b carry).z = decide ((alu op a b carry).res = 0) := by
  cases op <;> rfl

theorem alu_addForms (withCarry : Bool) (a b : Byte) (carry : Bool) :
    alu (if withCarry then .adc else .add) a b carry = add8 a b (withCarry && carry) := by
  cases withCarry <;> rfl

theorem alu_subForms (withCarry : Bool) (a b : Byte) (carry : Bool) :
    alu (if withCarry then .sbc else .sub) a b carry = sub8 a b (withCarry && carry) := by
  cases withCarry <;> rfl

/-- The carry-in of the two forms as a number. -/
theorem toNat_carryIn (withCarry carry : Bool) :
    (if withCarry then carry.toNat else 0) = (withCarry && carry).toNat := by
  cases withCarry <;> rfl

theorem toNat_add8_res (a b : Byte) (cin : Bool) :
    (add8 a b cin).res.toNat = (a.toNat + b.toNat + cin.toNat) % 256 := BitVec.toNat_ofNat _ _

theorem toNat_sub8_res (a b : Byte) (cin : Bool) :
    ((sub8 a b cin).res.toNat : Int) = ((a.toNat : Int) - b.toNat - cin.toNat) % 256 := by
  have hres : (sub8 a b cin).res.toNat = (((a.toNat : Int) - b.toNat - cin.toNat) % 256).toNat := BitVec.toNat_ofInt _
  rw [hres, Int.toNat_of_nonneg (Int.emod_nonneg _ (by decide))]

/-- A difference without borrow-in is 0 exactly between equal bytes, the wrap included. -/
theorem sub8_res_eq_zero_iff (a b : Byte) : (sub8 a b false).res = 0 ↔ a = b := by
  have hres := toNat_sub8_res a b false
  have ha := a.isLt
  have hb := b.isLt
  rw [Bool.toNat_false] at hres
  rw [← BitVec.toNat_inj, ← BitVec.toNat_inj (x := a)]
  change (sub8 a b false).res.toNat = 0 ↔ _
  omega

/-! ### An ALU operation on the state -/

/-- What every ALU operation but CP leaves: its result in A, four flags, and all else as it was. -/
theorem aluApply_retire {op : AluOp} (hop : op ≠ .cp) (b : Byte) (len cost : Nat) (s : State) :
    (aluApply op b (retire len cost s)).a = (alu op s.a b (flagC s)).res ∧
      FlagsRead (decide ((aluApply op b (retire len cost s)).a = 0)) (alu op s.a b (flagC s)).n
        (alu op s.a b (flagC s)).h (alu op s.a b (flagC s)).c 0 (aluApply op b (retire len cost s)) ∧
      RegisterFrame [.a] s (aluApply op b (retire len cost s)) ∧
      (aluApply op b (retire len cost s)).sp = s.sp ∧ Retires len cost s (aluApply op b (retire len cost s)) := by
  have ha : (aluApply op b (retire len cost s)).a = (alu op s.a b (flagC s)).res := if_neg hop
  have hreads := aluApply_reads op b (retire len cost s)
  have hframe := aluApply_frame op b len cost s
  rw [if_neg hop] at hframe
  rw [retire_a, flagC_retire, alu_z, ← ha] at hreads
  exact ⟨ha, hreads, hframe⟩

/-- Settles O14: both forms and both operations are `add8`, whose result is the exact sum narrowed. -/
theorem addComputesSumAndFlags : Obligations.AddComputesSumAndFlags := by
  intro s withCarry src v form hform cin
  have hcin : cin = (withCarry && flagC s).toNat := toNat_carryIn withCarry (flagC s)
  refine ⟨_, exec_alu_forms _ src v s form hform, ?_⟩
  obtain ⟨ha, hflags, hrest⟩ :=
    aluApply_retire (op := if withCarry then .adc else .add) (by split <;> decide) form.2.1 form.2.2.1 form.2.2.2 s
  rw [alu_addForms] at ha hflags
  rw [hcin]
  exact ⟨(congrArg BitVec.toNat ha).trans (toNat_add8_res _ _ _), hflags, hrest⟩

/-- Settles O15: both forms and both operations are `sub8`, whose result is the exact difference narrowed. -/
theorem subtractComputesDifferenceAndFlags : Obligations.SubtractComputesDifferenceAndFlags := by
  intro s withCarry src v form hform cin
  have hcin : cin = (withCarry && flagC s).toNat := toNat_carryIn withCarry (flagC s)
  refine ⟨_, exec_alu_forms _ src v s form hform, ?_⟩
  obtain ⟨ha, hflags, hrest⟩ :=
    aluApply_retire (op := if withCarry then .sbc else .sub) (by split <;> decide) form.2.1 form.2.2.1 form.2.2.2 s
  rw [alu_subForms] at ha hflags
  rw [hcin]
  exact ⟨(congrArg (fun r : Byte => (r.toNat : Int)) ha).trans (toNat_sub8_res _ _ _), hflags, hrest⟩

/-- Settles O16: CP is the subtraction without borrow-in, with its flags alone kept. -/
theorem compareSetsFlagsOnly : Obligations.CompareSetsFlagsOnly := by
  intro s src v form hform
  refine ⟨_, exec_alu_forms .cp src v s form hform, ?_, aluApply_frame .cp form.2.1 form.2.2.1 form.2.2.2 s⟩
  have hreads := aluApply_reads .cp form.2.1 (retire form.2.2.1 form.2.2.2 s)
  have hz : (alu .cp s.a form.2.1 (flagC s)).z = decide (s.a = form.2.1) :=
    (alu_z .cp _ _ _).trans (decide_eq_decide.mpr (sub8_res_eq_zero_iff s.a form.2.1))
  rw [retire_a, flagC_retire, hz] at hreads
  exact hreads

/-- Settles O17: the result is the word operation, read bit by bit; N, H and C are constants of the operation. -/
theorem logicalOperationsBitwise : Obligations.LogicalOperationsBitwise := by
  intro s src v op hop form hform
  refine ⟨_, exec_alu_forms op src v s form hform, ?_⟩
  have hcp : op ≠ .cp := by
    rintro rfl
    simp at hop
  obtain ⟨ha, hflags, hrest⟩ := aluApply_retire hcp form.2.1 form.2.2.1 form.2.2.2 s
  have hbits := fun i => congrArg (fun r : Byte => r.getLsbD i) ha
  simp only [List.mem_cons, List.not_mem_nil, or_false] at hop
  obtain rfl | rfl | rfl := hop
  · exact ⟨fun i => (hbits i).trans BitVec.getLsbD_and, hflags, hrest⟩
  · exact ⟨fun i => (hbits i).trans BitVec.getLsbD_xor, hflags, hrest⟩
  · exact ⟨fun i => (hbits i).trans BitVec.getLsbD_or, hflags, hrest⟩

/-! ### Some flags are written and the others kept -/

section
variable {x : List Reg8} {len cost : Nat} {s t : State} (z n h c : Option Bool)

/-- The flags that are not written are those of any earlier state with the same F. -/
theorem putFlags_reads_of_f (hf : t.f = s.f) :
    FlagsRead (z.getD (flagZ s)) (n.getD (flagN s)) (h.getD (flagH s)) (c.getD (flagC s)) (s.f &&& 0x0F)
      (putFlags z n h c t) := by
  have hreads := putFlags_reads z n h c t
  rwa [flagZ, flagN, flagH, flagC, hf] at hreads

theorem retires_putFlags (hretires : Retires len cost s t) : Retires len cost s (putFlags z n h c t) :=
  ⟨hretires.pc, hretires.cycles⟩

/-- What a write of some flags leaves after an operation that kept F and SP. -/
theorem putFlags_outcome (hframe : RegisterFrame x s t) (hkept : FlagsAndStackKept s t)
    (hretires : Retires len cost s t) :
    FlagsRead (z.getD (flagZ s)) (n.getD (flagN s)) (h.getD (flagH s)) (c.getD (flagC s)) (s.f &&& 0x0F)
        (putFlags z n h c t) ∧
      RegisterFrame x s (putFlags z n h c t) ∧ (putFlags z n h c t).sp = s.sp ∧
      Retires len cost s (putFlags z n h c t) :=
  ⟨putFlags_reads_of_f z n h c hkept.f, frame_putFlags x z n h c s t hframe, hkept.sp,
    retires_putFlags z n h c hretires⟩

/-- The same after a write of A. -/
theorem putFlags_setReg8_a (v : Byte) (len cost : Nat) (s : State) :
    FlagsRead (z.getD (flagZ s)) (n.getD (flagN s)) (h.getD (flagH s)) (c.getD (flagC s)) (s.f &&& 0x0F)
        (putFlags z n h c (setReg8 .a v (retire len cost s))) ∧
      RegisterFrame [.a] s (putFlags z n h c (setReg8 .a v (retire len cost s))) ∧
      (putFlags z n h c (setReg8 .a v (retire len cost s))).sp = s.sp ∧
      Retires len cost s (putFlags z n h c (setReg8 .a v (retire len cost s))) :=
  putFlags_outcome z n h c (setReg8_retire_frame .a v len cost s) (setOp8_flagsAndStackKept (.reg .a) v len cost s)
    (setOp8_retires (.reg .a) v len cost s)

/-- The same where only flags are written. -/
theorem putFlags_retire (len cost : Nat) (s : State) :
    FlagsRead (z.getD (flagZ s)) (n.getD (flagN s)) (h.getD (flagH s)) (c.getD (flagC s)) (s.f &&& 0x0F)
        (putFlags z n h c (retire len cost s)) ∧
      RegisterFrame [] s (putFlags z n h c (retire len cost s)) ∧ (putFlags z n h c (retire len cost s)).sp = s.sp ∧
      Retires len cost s (putFlags z n h c (retire len cost s)) :=
  putFlags_outcome z n h c (frame_retire len cost s) ⟨rfl, rfl⟩ (retires_retire len cost s)

end

/-! ### Increment and decrement -/

/-- The common form of INC and DEC: a byte goes to the operand, with its Z, the given N and H, and C kept. -/
def deliverWithFlags (o : Operand8) (res : Byte) (n h : Bool) (s : State) : State :=
  putFlags (some (decide (res = 0))) (some n) (some h) none (setOp8 o res s)

theorem incOp_retire (o : Operand8) (len cost : Nat) (s : State) :
    incOp o (retire len cost s) =
      deliverWithFlags o (op8 o s + 1) false (decide ((op8 o s).toNat % 16 = 15)) (retire len cost s) := by
  rw [incOp, op8_retire, beq_eq_decide, beq_eq_decide, deliverWithFlags]

theorem decOp_retire (o : Operand8) (len cost : Nat) (s : State) :
    decOp o (retire len cost s) =
      deliverWithFlags o (op8 o s - 1) true (decide ((op8 o s).toNat % 16 = 0)) (retire len cost s) := by
  rw [decOp, op8_retire, beq_eq_decide, beq_eq_decide, deliverWithFlags]

/-- The flags are the same whether a store was made or dropped. -/
theorem deliverWithFlags_retire (o : Operand8) (res : Byte) (n h : Bool) (len cost : Nat) {s : State}
    (hm : s.mem.wf = true) :
    Delivers o res s (deliverWithFlags o res n h (retire len cost s)) ∧
      FlagsRead (decide (res = 0)) n h (flagC s) (s.f &&& 0x0F) (deliverWithFlags o res n h (retire len cost s)) ∧
      (deliverWithFlags o res n h (retire len cost s)).sp = s.sp ∧
      Retires len cost s (deliverWithFlags o res n h (retire len cost s)) := by
  have hkept := setOp8_flagsAndStackKept o res len cost s
  rw [deliverWithFlags]
  exact ⟨delivers_around o res s _ _ len cost (setOp8_delivers o res (retire len cost s) hm)
      (fun r => getReg8_putFlags r _ _ _ _ _) rfl rfl (quiet_putFlags _ _ _ _ _).device,
    putFlags_reads_of_f (some _) (some _) (some _) none hkept.f, hkept.sp,
    retires_putFlags _ _ _ _ (setOp8_retires o res len cost s)⟩

/-- Settles O18: INC delivers the operand plus 1. -/
theorem incrementByte : Obligations.IncrementByte := by
  intro o s hm
  refine ⟨_, op8 o s + 1, exec_inc o s, BitVec.toNat_add _ _, ?_⟩
  rw [incOp_retire]
  exact deliverWithFlags_retire o _ _ _ 1 (costFor o 4 12) hm

/-- Settles O19: DEC delivers the operand minus 1. -/
theorem decrementByte : Obligations.DecrementByte := by
  intro o s hm
  have hres : (op8 o s - 1).toNat = ((op8 o s).toNat + 255) % 256 := by
    rw [BitVec.toNat_sub, Nat.add_comm]
    rfl
  refine ⟨_, op8 o s - 1, exec_dec o s, hres, ?_⟩
  rw [decOp_retire]
  exact deliverWithFlags_retire o _ _ _ 1 (costFor o 4 12) hm

/-! ### The complement and the carry flag -/

theorem toNat_complement (a : Byte) : (a ^^^ 0xFF).toNat = 255 - a.toNat := by
  rw [show (0xFF : Byte) = BitVec.allOnes 8 from rfl, BitVec.xor_allOnes, BitVec.toNat_not]

/-- Settles O22: CPL writes A and flags, SCF and CCF write flags alone. -/
theorem complementAndCarryFlag : Obligations.ComplementAndCarryFlag := fun s =>
  ⟨⟨_, rfl, toNat_complement s.a, putFlags_setReg8_a none (some true) (some true) none _ 1 4 s⟩,
    ⟨_, rfl, putFlags_retire none (some false) (some false) (some true) 1 4 s⟩,
    ⟨_, rfl, putFlags_retire none (some false) (some false) (some (!flagC s)) 1 4 s⟩⟩

/-! ### Decimal adjustment -/

theorem toNat_ite_add (p : Bool) (a k : Byte) :
    (if p then a + k else a).toNat = (a.toNat + if p then k.toNat else 0) % 256 := by
  cases p
  · exact (Nat.mod_eq_of_lt a.isLt).symm
  · exact BitVec.toNat_add a k

theorem toNat_ite_sub (p : Bool) (a k : Byte) :
    ((if p then a - k else a).toNat : Int) = ((a.toNat : Int) - if p then (k.toNat : Int) else 0) % 256 := by
  have ha := a.isLt
  cases p
  · simp only [Bool.false_eq_true, if_false]
    omega
  · simp only [if_true, BitVec.toNat_sub]
    omega

/-- Adding 0x60 or nothing keeps the low nibble, so the second correction of an addition may look at the operand. -/
theorem lowNibble_highCorrected (p : Bool) (a : Byte) : (if p then a + 0x60 else a).toNat % 16 = a.toNat % 16 := by
  cases p
  · rfl
  · have hsum : (a + 0x60).toNat = (a.toNat + 96) % 256 := BitVec.toNat_add a 0x60
    rw [if_pos rfl, hsum]
    omega

/-- Both corrections of an addition are taken from the operand (R181). -/
theorem toNat_daa_addition (a : Byte) (h c : Bool) :
    (daa a false h c).1.toNat = (a.toNat + (if c || decide (a.toNat > 0x99) then 0x60 else 0) +
      (if h || decide (a.toNat % 16 > 9) then 6 else 0)) % 256 := by
  refine (toNat_ite_add _ _ 0x06).trans ?_
  rw [lowNibble_highCorrected, toNat_ite_add, Nat.mod_add_mod]
  rfl

theorem toNat_daa_subtraction (a : Byte) (h c : Bool) :
    ((daa a true h c).1.toNat : Int) =
      ((a.toNat : Int) - (if c then 0x60 else 0) - (if h then 6 else 0)) % 256 := by
  refine (toNat_ite_sub h _ 0x06).trans ?_
  rw [toNat_ite_sub c a 0x60, Int.emod_sub_emod]
  rfl

/-- DAA writes the result of `daa` to A, its Z and the new carry to F, and keeps N. -/
theorem decimalAdjust_retire (len cost : Nat) (s : State) :
    decimalAdjust (retire len cost s) =
      putFlags (some (decide ((daa s.a (flagN s) (flagH s) (flagC s)).1 = 0))) none (some false)
        (some (daa s.a (flagN s) (flagH s) (flagC s)).2)
        (setReg8 .a (daa s.a (flagN s) (flagH s) (flagC s)).1 (retire len cost s)) := rfl

/-- Settles O20: the result and the new carry are those of `daa`; N and bits 3..0 of F are kept. -/
theorem decimalAdjustAlgorithm : Obligations.DecimalAdjustAlgorithm := by
  intro s
  refine ⟨_, rfl, ?_⟩
  rw [decimalAdjust_retire]
  obtain ⟨hflags, hrest⟩ := putFlags_setReg8_a (some (decide ((daa s.a (flagN s) (flagH s) (flagC s)).1 = 0))) none
    (some false) (some (daa s.a (flagN s) (flagH s) (flagC s)).2) (daa s.a (flagN s) (flagH s) (flagC s)).1 1 4 s
  rw [hflags.c]
  refine ⟨fun hn => ?_, fun hn => ?_, hflags, hrest⟩
  · rw [hn]
    exact ⟨toNat_daa_addition s.a (flagH s) (flagC s), rfl⟩
  · rw [hn]
    exact ⟨toNat_daa_subtraction s.a (flagH s) (flagC s), rfl⟩

/-! ### Decimal adjustment corrects BCD -/

/-- The two BCD digits of a number, as a number. -/
def bcdValue (n : Nat) : Nat := n / 10 * 16 + n % 10

theorem toNat_bcdOf {n : Nat} (hn : n < 100) : (bcdOf n).toNat = bcdValue n :=
  Nat.mod_eq_of_lt (by omega)

theorem eq_bcdOf {a : Byte} {n : Nat} (hn : n < 100) (h : a.toNat = bcdValue n) : a = bcdOf n :=
  BitVec.eq_of_toNat_eq (h.trans (toNat_bcdOf hn).symm)

section
variable {x y : Nat}

/-- After an addition of two BCD bytes the high correction is due exactly where the decimal sum has a carry. -/
theorem bcd_highCorrection_iff :
    (bcdValue x + bcdValue y > 255 ∨ (bcdValue x + bcdValue y) % 256 > 0x99) ↔ x + y ≥ 100 := by
  have hsum : bcdValue x + bcdValue y > 0x99 ↔ x + y ≥ 100 := by
    unfold bcdValue
    omega
  rw [← hsum]
  omega

/-- The low correction is due exactly where the units have a carry. -/
theorem bcd_lowCorrection_iff :
    (bcdValue x % 16 + bcdValue y % 16 > 15 ∨ (bcdValue x + bcdValue y) % 256 % 16 > 9) ↔ x % 10 + y % 10 ≥ 10 := by
  unfold bcdValue
  omega

/-- With a correction of each digit that has a carry the binary sum is the decimal one. -/
theorem bcd_sum_corrected (hx : x < 100) (hy : y < 100) :
    ((bcdValue x + bcdValue y) % 256 + (if x + y ≥ 100 then 0x60 else 0) + if x % 10 + y % 10 ≥ 10 then 6 else 0) % 256 =
      bcdValue ((x + y) % 100) := by
  unfold bcdValue
  split <;> split <;> omega

theorem bcd_borrow_iff : bcdValue x < bcdValue y ↔ x < y := by
  unfold bcdValue
  omega

theorem bcd_halfBorrow_iff : bcdValue x % 16 < bcdValue y % 16 ↔ x % 10 < y % 10 := by
  unfold bcdValue
  omega

/-- With a correction of each digit that has a borrow the binary difference is the decimal one. -/
theorem bcd_difference_corrected (hx : x < 100) (hy : y < 100) :
    (((bcdValue x : Int) - bcdValue y) % 256 - (if x < y then 0x60 else 0) - if x % 10 < y % 10 then 6 else 0) % 256 =
      bcdValue ((x + 100 - y) % 100) := by
  unfold bcdValue
  split <;> split <;> omega

/-- ADD and then DAA, from the rule of each (42_alu8.md section 6). -/
theorem add_daa_bcd {s : State} (hx : x < 100) (hy : y < 100) (ha : s.a = bcdOf x) :
    ∃ t u, exec (.addAD8 (bcdOf y)) s = .next t ∧ exec .daa t = .next u ∧
      u.a = bcdOf ((x + y) % 100) ∧ flagC u = decide (x + y ≥ 100) := by
  obtain ⟨t, ht, hsum, hflags, -⟩ := addComputesSumAndFlags s false (.reg .b) (bcdOf y)
    (.addAD8 (bcdOf y), bcdOf y, 2, 8) (.tail _ (.head _))
  obtain ⟨u, hu, hadjust, -⟩ := decimalAdjustAlgorithm t
  obtain ⟨hres, hc⟩ := hadjust hflags.n
  rw [hflags.c, hsum, ha, toNat_bcdOf hx, toNat_bcdOf hy] at hc
  rw [hflags.c, hflags.h, hsum, ha, toNat_bcdOf hx, toNat_bcdOf hy] at hres
  simp only [Bool.false_eq_true, if_false, Nat.add_zero, ← Bool.decide_or, bcd_highCorrection_iff] at hc hres
  simp only [decide_eq_true_eq, bcd_lowCorrection_iff, bcd_sum_corrected hx hy] at hres
  exact ⟨t, u, ht, hu, eq_bcdOf (Nat.mod_lt _ (by decide)) hres, hc⟩

/-- SUB and then DAA, from the rule of each. -/
theorem sub_daa_bcd {s : State} (hx : x < 100) (hy : y < 100) (ha : s.a = bcdOf x) :
    ∃ t u, exec (.subD8 (bcdOf y)) s = .next t ∧ exec .daa t = .next u ∧
      u.a = bcdOf ((x + 100 - y) % 100) ∧ flagC u = decide (x < y) := by
  obtain ⟨t, ht, hdiff, hflags, -⟩ := subtractComputesDifferenceAndFlags s false (.reg .b) (bcdOf y)
    (.subD8 (bcdOf y), bcdOf y, 2, 8) (.tail _ (.head _))
  obtain ⟨u, hu, -, hadjust, -⟩ := decimalAdjustAlgorithm t
  obtain ⟨hres, hc⟩ := hadjust hflags.n
  rw [hflags.c, ha, toNat_bcdOf hx, toNat_bcdOf hy] at hc
  rw [hflags.c, hflags.h, hdiff, ha, toNat_bcdOf hx, toNat_bcdOf hy] at hres
  simp only [Bool.false_eq_true, if_false, Nat.add_zero, bcd_borrow_iff] at hc hres
  simp only [decide_eq_true_eq, Nat.cast_zero, sub_zero, bcd_halfBorrow_iff, bcd_difference_corrected hx hy] at hres
  exact ⟨t, u, ht, hu, eq_bcdOf (Nat.mod_lt _ (by decide)) (Int.ofNat_inj.mp hres), hc⟩

end

/-- Settles O21: a digit is corrected exactly where it has a carry or a borrow. -/
theorem decimalAdjustCorrectsBcd : Obligations.DecimalAdjustCorrectsBcd := fun _ _ _ hx hy ha =>
  ⟨add_daa_bcd hx hy ha, sub_daa_bcd hx hy ha⟩

end Sys2Proof.Proofs.Alu8
end

section
/-! PROOFS. 16-bit arithmetic (spec/43_alu16.md R190 to R192). Each form writes one pair after `retire`, so what it leaves
unchanged is said by the lemmas about `setPair`, and about `putFlags` for the one that writes flags. -/

namespace Sys2Proof.Proofs.Alu16

open Sys2Proof Sys2Proof.Machine Sys2Proof.Safety
open Sys2Proof.Proofs.Load8 (flagsAndStackKept_setPair)
open Sys2Proof.Proofs.Load16 (setPair_retire)
open Sys2Proof.Proofs.Alu8 (putFlags_outcome)

/-! ### A word is added to HL -/

theorem toNat_add16_res (a b : Word) : (add16 a b).res.toNat = (a.toNat + b.toNat) % 65536 := BitVec.toNat_ofNat _ _

/-- A 16-bit outcome goes to HL, N, H and C, with Z kept. -/
def sumIntoHL (o : Add16Out) (s : State) : State :=
  putFlags none (some false) (some o.h) (some o.c) (setPair .hl o.res s)

/-- The operands are those of the old state, also where HL is its own source. -/
theorem addHLPair_retire (p : Pair) (len cost : Nat) (s : State) :
    addHLPair p (retire len cost s) = sumIntoHL (add16 (getPair .hl s) (getPair p s)) (retire len cost s) := by
  rw [addHLPair, getPair_retire, getPair_retire, sumIntoHL]

theorem getPair_sumIntoHL (o : Add16Out) (s : State) : getPair .hl (sumIntoHL o s) = o.res := by
  rw [sumIntoHL, getPair_putFlags, getPair_setPair_same]

/-- Z, bits 3..0 of F and SP are the old ones, because the write of HL kept F and SP. -/
theorem sumIntoHL_retire (o : Add16Out) (len cost : Nat) (s : State) :
    FlagsRead (flagZ s) false o.h o.c (s.f &&& 0x0F) (sumIntoHL o (retire len cost s)) ∧
      RegisterFrame [.h, .l] s (sumIntoHL o (retire len cost s)) ∧ (sumIntoHL o (retire len cost s)).sp = s.sp ∧
      Retires len cost s (sumIntoHL o (retire len cost s)) := by
  obtain ⟨-, hframe, -, hretires⟩ := setPair_retire .hl o.res len cost s
  have hkept : FlagsAndStackKept s (setPair .hl o.res (retire len cost s)) :=
    flagsAndStackKept_setPair (by decide) o.res ⟨rfl, rfl⟩
  exact putFlags_outcome none (some false) (some o.h) (some o.c) hframe hkept hretires

/-- Settles O24: the sum goes to HL, and the flags of `add16` are its carries out of bits 11 and 15. -/
theorem addToHL : Obligations.AddToHL := by
  intro p s
  refine ⟨_, exec_addHL p s, ?_⟩
  rw [addHLPair_retire, getPair_sumIntoHL]
  exact ⟨toNat_add16_res _ _, sumIntoHL_retire (add16 (getPair .hl s) (getPair p s)) 1 8 s⟩

/-! ### A pair goes up or down by one -/

/-- One less is 65535 more, mod 65536. -/
theorem toNat_sub_one (w : Word) : (w - 1).toNat = (w.toNat + 65535) % 65536 := by
  rw [BitVec.toNat_sub, Nat.add_comm]
  rfl

/-- What a write of a pair delivers as a number, and what it leaves unchanged, F included. -/
theorem setPair_retire_toNat (p : Pair) {v : Word} {n : Nat} (hv : v.toNat = n) (len cost : Nat) (s : State) :
    (getPair p (setPair p v (retire len cost s))).toNat = n ∧ (setPair p v (retire len cost s)).f = s.f ∧
      RegisterFrame (halves p) s (setPair p v (retire len cost s)) ∧
      (p ≠ .sp → (setPair p v (retire len cost s)).sp = s.sp) ∧
      Retires len cost s (setPair p v (retire len cost s)) := by
  obtain ⟨hpair, hframe, hf, hretires⟩ := setPair_retire p v len cost s
  exact ⟨(congrArg BitVec.toNat hpair).trans hv, hf, hframe, setPair_sp_of_ne p v _, hretires⟩

/-- Settles O23: both forms are one write of the pair, and no flag is written. -/
theorem stepPairWithoutFlags : Obligations.StepPairWithoutFlags := by
  intro p s form hform
  simp only [List.mem_cons, List.not_mem_nil, or_false] at hform
  obtain rfl | rfl := hform
  · refine ⟨_, exec_incPair p s, ?_⟩
    rw [incPair, getPair_retire]
    exact setPair_retire_toNat p (BitVec.toNat_add _ _) 1 8 s
  · refine ⟨_, exec_decPair p s, ?_⟩
    rw [decPair, getPair_retire]
    exact setPair_retire_toNat p (toNat_sub_one _) 1 8 s

end Sys2Proof.Proofs.Alu16
end

section
/-! PROOFS. Rotates, shifts and single bits (spec/44_rotate_shift_bit.md R200 to R226). The results are facts about bytes,
in exact arithmetic for `rotate` and bit by bit for RES and SET; where they go and what they leave unchanged is said by the
lemmas about `setOp8`, `putFlags` and `putAllFlags`. -/

namespace Sys2Proof.Proofs.RotateShiftBit

open Sys2Proof Sys2Proof.Machine Sys2Proof.Safety
open Sys2Proof.Proofs.Load8 (setOp8_flagsAndStackKept setOp8_retires setOp8_retire_delivers)
open Sys2Proof.Proofs.Alu8 (putFlags_setReg8_a putFlags_retire)

/-! ### One bit of a byte -/

theorem toNat_getLsbD (v : Byte) (i : Nat) : (v.getLsbD i).toNat = v.toNat / 2 ^ i % 2 := Nat.toNat_testBit v.toNat i

theorem getLsbD_eq_decide (v : Byte) (i : Nat) : v.getLsbD i = decide (v.toNat / 2 ^ i % 2 = 1) :=
  Nat.testBit_eq_decide_div_mod_eq

theorem bitAt_eq_ite (b : Bool) (place : Nat) : bitAt b place = if b then BitVec.twoPow 8 place else 0#8 := by
  cases b
  · exact BitVec.zero_shiftLeft place
  · exact BitVec.twoPow_eq 8 place

/-- Masking one bit out of a byte. -/
theorem and_twoPow_eq_bitAt (v : Byte) (place : Nat) : v &&& BitVec.twoPow 8 place = bitAt (v.getLsbD place) place := by
  rw [BitVec.and_twoPow, bitAt_eq_ite]

/-- Bytes without a common bit are joined by adding them. -/
theorem toNat_or_of_disjoint {x y : Byte} (h : x &&& y = 0#8) : (x ||| y).toNat = x.toNat + y.toNat := by
  rw [← BitVec.add_eq_or_of_and_eq_zero x y h, BitVec.toNat_add_of_and_eq_zero h]

/-- A bit put at a place that is clear adds its weight. -/
theorem toNat_or_bitAt {x : Byte} {place : Nat} (hp : place < 8) (hx : x.getLsbD place = false) (b : Bool) :
    (x ||| bitAt b place).toNat = x.toNat + b.toNat * 2 ^ place := by
  cases b
  · simp [bitAt_eq_ite]
  · have hdisjoint : x &&& BitVec.twoPow 8 place = 0#8 := by rw [BitVec.and_twoPow, hx, if_neg Bool.false_ne_true]
    rw [bitAt_eq_ite, if_pos rfl, toNat_or_of_disjoint hdisjoint, BitVec.toNat_twoPow_of_lt hp, Bool.toNat_true,
      Nat.one_mul]

/-! ### The results of the rotates and shifts -/

theorem toNat_shiftLeft (v : Byte) (n : Nat) : (v <<< n).toNat = v.toNat * 2 ^ n % 256 := by
  rw [BitVec.toNat_shiftLeft, Nat.shiftLeft_eq]

theorem toNat_shiftRight (v : Byte) (n : Nat) : (v >>> n).toNat = v.toNat / 2 ^ n := by
  rw [BitVec.toNat_ushiftRight, Nat.shiftRight_eq_div_pow]

/-- A shift left by one leaves bit 0 free for the bit rotated in. -/
theorem toNat_shiftLeft_or_bit0 (v : Byte) (b : Bool) : (v <<< 1 ||| bitAt b 0).toNat = v.toNat * 2 % 256 + b.toNat := by
  have hclear : (v <<< 1).getLsbD 0 = false := by simp
  rw [toNat_or_bitAt (by decide) hclear, toNat_shiftLeft, Nat.pow_one, Nat.pow_zero, Nat.mul_one]

/-- A shift right by one leaves bit 7 free for the bit rotated in. -/
theorem toNat_shiftRight_or_bit7 (v : Byte) (b : Bool) : (v >>> 1 ||| bitAt b 7).toNat = v.toNat / 2 + b.toNat * 128 := by
  have hclear : (v >>> 1).getLsbD 7 = false := by simp
  rw [toNat_or_bitAt (by decide) hclear, toNat_shiftRight]
  rfl

/-- The two nibbles of a byte after they change places have no common bit. -/
theorem toNat_swapNibbles (v : Byte) : (v <<< 4 ||| v >>> 4).toNat = v.toNat % 16 * 16 + v.toNat / 16 := by
  have hdisjoint : v <<< 4 &&& v >>> 4 = 0#8 := by
    refine BitVec.eq_of_getLsbD_eq fun i hi => ?_
    by_cases h4 : i < 4
    · simp [h4]
    · have hhigh : v.getLsbD (4 + i) = false := BitVec.getLsbD_of_ge v _ (by omega)
      simp [hhigh]
  rw [toNat_or_of_disjoint hdisjoint, toNat_shiftLeft, toNat_shiftRight]
  omega

theorem toNat_bit7 (v : Byte) : (v.getLsbD 7).toNat = v.toNat / 128 := by
  have hv := v.isLt
  rw [toNat_getLsbD]
  omega

theorem toNat_bit0 (v : Byte) : (v.getLsbD 0).toNat = v.toNat % 2 := by
  rw [toNat_getLsbD, Nat.pow_zero, Nat.div_one]

/-- Every rotate and shift gives its result in exact arithmetic (R200 to R220). -/
theorem toNat_rotate (op : RotOp) (v : Byte) (carry : Bool) :
    (rotate op v carry).1.toNat = rotateResult op v.toNat carry.toNat := by
  cases op with
  | rlc => exact (toNat_shiftLeft_or_bit0 v _).trans (by rw [toNat_bit7, rotateResult])
  | rrc => exact (toNat_shiftRight_or_bit7 v _).trans (by rw [toNat_bit0, rotateResult])
  | rl => exact toNat_shiftLeft_or_bit0 v carry
  | rr => exact toNat_shiftRight_or_bit7 v carry
  | sla => exact toNat_shiftLeft v 1
  | sra =>
    have hsign : v &&& 0x80 = bitAt (v.getLsbD 7) 7 := and_twoPow_eq_bitAt v 7
    rw [rotate, hsign, toNat_shiftRight_or_bit7, toNat_bit7, rotateResult]
  | swap => exact toNat_swapNibbles v
  | srl => exact toNat_shiftRight v 1

theorem bit7_eq_decide (v : Byte) : v.getLsbD 7 = decide (128 ≤ v.toNat) := by
  have hv := v.isLt
  rw [getLsbD_eq_decide, decide_eq_decide]
  omega

theorem bit0_eq_decide (v : Byte) : v.getLsbD 0 = decide (v.toNat % 2 = 1) := by
  rw [getLsbD_eq_decide, Nat.pow_zero, Nat.div_one]

/-- The carry is bit 7 of the operand after a shift left, bit 0 after a shift right, and clear after SWAP. -/
theorem rotate_carry (op : RotOp) (v : Byte) (carry : Bool) : (rotate op v carry).2 = rotateCarry op v.toNat := by
  cases op with
  | rlc | rl | sla => exact bit7_eq_decide v
  | rrc | rr | sra | srl => exact bit0_eq_decide v
  | swap => rfl

/-! ### The accumulator rotates -/

theorem exec_accumulatorRotates (s : State) (form : Instr × RotOp)
    (h : form ∈ [(Instr.rlca, RotOp.rlc), (.rrca, .rrc), (.rla, .rl), (.rra, .rr)]) :
    exec form.1 s = .next (rotateA form.2 (retire 1 4 s)) := by
  simp only [List.mem_cons, List.not_mem_nil, or_false] at h
  obtain rfl | rfl | rfl | rfl := h <;> rfl

/-- The operand and the old carry are those before the instruction. -/
theorem rotateA_retire (op : RotOp) (len cost : Nat) (s : State) :
    rotateA op (retire len cost s) =
      putFlags (some false) (some false) (some false) (some (rotateCarry op s.a.toNat))
        (setReg8 .a (rotate op s.a (flagC s)).1 (retire len cost s)) := by
  rw [rotateA, retire_a, flagC_retire, rotate_carry]

/-- Settles O25: A gets the result of `rotate`, and Z, N and H are cleared without a look at it. -/
theorem accumulatorRotates : Obligations.AccumulatorRotates := by
  intro s form hform
  refine ⟨_, exec_accumulatorRotates s form hform, ?_⟩
  rw [rotateA_retire]
  exact ⟨toNat_rotate form.2 s.a (flagC s), putFlags_setReg8_a (some false) (some false) (some false) (some _) _ 1 4 s⟩

/-! ### The CB page's rotates and shifts -/

/-- The common end of the rotates and shifts of the CB page: a byte goes to the operand, with its Z and a carry. -/
def deliverWithCarry (o : Operand8) (res : Byte) (c : Bool) (s : State) : State :=
  putAllFlags (decide (res = 0)) false false c (setOp8 o res s)

/-- The operand and the old carry are those before the instruction. -/
theorem rotateOp_retire (op : RotOp) (o : Operand8) (len cost : Nat) (s : State) :
    rotateOp op o (retire len cost s) =
      deliverWithCarry o (rotate op (op8 o s) (flagC s)).1 (rotateCarry op (op8 o s).toNat) (retire len cost s) := by
  rw [rotateOp, op8_retire, flagC_retire, rotate_carry, beq_eq_decide, deliverWithCarry]

/-- The flags are the same whether a store was made or dropped. -/
theorem deliverWithCarry_retire (o : Operand8) (res : Byte) (c : Bool) (len cost : Nat) {s : State}
    (hm : s.mem.wf = true) :
    Delivers o res s (deliverWithCarry o res c (retire len cost s)) ∧
      FlagsRead (decide (res = 0)) false false c 0 (deliverWithCarry o res c (retire len cost s)) ∧
      (deliverWithCarry o res c (retire len cost s)).sp = s.sp ∧
      Retires len cost s (deliverWithCarry o res c (retire len cost s)) := by
  obtain ⟨-, hsp⟩ := setOp8_flagsAndStackKept o res len cost s
  obtain ⟨hpc, hcycles⟩ := setOp8_retires o res len cost s
  rw [deliverWithCarry]
  exact ⟨delivers_around o res s _ _ len cost (setOp8_delivers o res (retire len cost s) hm)
      (fun r => getReg8_putAllFlags r _ _ _ _ _) rfl rfl (quiet_putAllFlags _ _ _ _ _).device,
    putAllFlags_reads _ _ _ _ _, hsp, hpc, hcycles⟩

/-- Settles O26: the operand gets the result of `rotate`, and all four flags are written. -/
theorem rotateAndShift : Obligations.RotateAndShift := by
  intro op o s hm
  refine ⟨_, (rotate op (op8 o s) (flagC s)).1, exec_rotate op o s, toNat_rotate op (op8 o s) (flagC s), ?_⟩
  rw [rotateOp_retire]
  exact deliverWithCarry_retire o _ _ 2 (costFor o 8 16) hm

/-! ### Single bits -/

/-- The bit tested is that of the operand before the instruction. -/
theorem testBit_retire (b : BitVec 3) (o : Operand8) (len cost : Nat) (s : State) :
    testBit b o (retire len cost s) =
      putFlags (some (!(op8 o s).getLsbD b.toNat)) (some false) (some true) none (retire len cost s) := by
  rw [testBit, op8_retire]

/-- Settles O27: BIT is a write of Z, N and H alone. -/
theorem testBit : Obligations.TestBit := by
  intro b o s
  refine ⟨_, exec_bit b o s, ?_⟩
  rw [testBit_retire]
  exact putFlags_retire (some _) (some false) (some true) none 2 (costFor o 8 12) s

/-- A byte with one bit cleared or set, as RES and SET compute it. -/
def withBit (b : BitVec 3) (on : Bool) (v : Byte) : Byte :=
  if on then v ||| (1 : Byte) <<< b.toNat else v &&& ~~~((1 : Byte) <<< b.toNat)

/-- RES and SET change their own bit and no other (R223 to R226). -/
theorem getLsbD_withBit (b : BitVec 3) (on : Bool) (v : Byte) {i : Nat} (hi : i < 8) :
    (withBit b on v).getLsbD i = if i = b.toNat then on else v.getLsbD i := by
  have hplace : decide (b.toNat < 8) = true := decide_eq_true b.isLt
  have hmask : ((1 : Byte) <<< b.toNat).getLsbD i = decide (i = b.toNat) := by
    rw [show (1 : Byte) <<< b.toNat = BitVec.twoPow 8 b.toNat from (BitVec.twoPow_eq 8 _).symm, BitVec.getLsbD_twoPow,
      hplace, Bool.true_and, decide_eq_decide]
    exact eq_comm
  cases on
  · rw [withBit, if_neg Bool.false_ne_true, BitVec.getLsbD_and, BitVec.getLsbD_not, hmask, decide_eq_true hi]
    by_cases h : i = b.toNat <;> simp [h]
  · rw [withBit, if_pos rfl, BitVec.getLsbD_or, hmask]
    by_cases h : i = b.toNat <;> simp [h]

/-- Both instructions deliver the operand with the one bit changed, the operand as it was before the instruction. -/
theorem exec_bitWrite_forms (b : BitVec 3) (o : Operand8) (s : State) (form : Instr × Bool)
    (h : form ∈ [(resInstr b o, false), (setInstr b o, true)]) :
    exec form.1 s = .next (setOp8 o (withBit b form.2 (op8 o s)) (retire 2 (costFor o 8 16) s)) := by
  simp only [List.mem_cons, List.not_mem_nil, or_false] at h
  obtain rfl | rfl := h
  · rw [exec_res, clearBit, op8_retire]
    rfl
  · rw [exec_set, setBit, op8_retire]
    rfl

/-- Settles O28: RES and SET write one operand and no flag. -/
theorem clearAndSetBit : Obligations.ClearAndSetBit := fun b o s hm form hform =>
  ⟨_, withBit b form.2 (op8 o s), exec_bitWrite_forms b o s form hform, setOp8_retire_delivers o _ 2 (costFor o 8 16) hm,
    fun _ hi => getLsbD_withBit b form.2 (op8 o s) hi, setOp8_flagsAndStackKept o _ 2 (costFor o 8 16) s,
    setOp8_retires o _ 2 (costFor o 8 16) s⟩

end Sys2Proof.Proofs.RotateShiftBit
end

section
/-! PROOFS. Control transfer (spec/45_control.md R230 to R241). PC is written last and nothing else of the state depends
on it, so a call is Push16 and then a jump, a return is Pop16 and then a jump, and a jump not taken is a jump to the
next instruction: what `jumpTo` leaves unchanged is said once. -/

namespace Sys2Proof.Proofs.Control

open Sys2Proof Sys2Proof.Machine Sys2Proof.Safety
open Sys2Proof.Proofs.Load16 (toNat_add_sext16 setPair_retire storeFrame_of_registerFrame storeFrame_write16
  storesWord_write16_of_mem)

/-! ### PC is written -/

@[simp] theorem getReg8_jumpTo (r : Reg8) (target : Word) (s : State) : getReg8 r (jumpTo target s) = getReg8 r s := by
  cases r <;> rfl

section
variable {x : List Reg8} {s t : State}

theorem deviceKept_jumpTo (target : Word) (h : DeviceKept s t) : DeviceKept s (jumpTo target t) :=
  ⟨h.dot, h.line, h.frameReady, h.fb, h.fault⟩

theorem registerFrame_jumpTo (target : Word) (h : RegisterFrame x s t) : RegisterFrame x s (jumpTo target t) where
  regs q hq := (getReg8_jumpTo q target t).trans (h.regs q hq)
  memory := h.memory
  ime := h.ime
  device := deviceKept_jumpTo target h.device

theorem storeFrame_jumpTo (target : Word) (h : StoreFrame x s t) : StoreFrame x s (jumpTo target t) where
  regs q hq := (getReg8_jumpTo q target t).trans (h.regs q hq)
  ime := h.ime
  device := deviceKept_jumpTo target h.device

theorem storesWord_jumpTo (target : Word) {addr v : Word} (h : StoresWord addr v s t) :
    StoresWord addr v s (jumpTo target t) :=
  ⟨h.low, h.high, h.others⟩

end

/-! ### Jumps -/

/-- What a jump does, and that it keeps the registers, F, SP and memory. -/
theorem jumpTo_retire (target : Word) (len cost : Nat) (s : State) :
    (jumpTo target (retire len cost s)).pc = target ∧ (jumpTo target (retire len cost s)).cycles = s.cycles + cost ∧
      RegisterFrame [] s (jumpTo target (retire len cost s)) ∧
      FlagsAndStackKept s (jumpTo target (retire len cost s)) :=
  ⟨rfl, rfl, registerFrame_jumpTo target (frame_retire len cost s), rfl, rfl⟩

/-- The absolute jumps, taken or not, are `jumpTo` their claimed target at their claimed cost: not to jump is to jump to
the next instruction. -/
theorem exec_absoluteJumps (w : Word) (cc : Cond) (s : State) (form : Instr × Word × Nat)
    (h : form ∈ [(Instr.jpA16 w, w, 16), (.jpHL, getPair .hl s, 4),
      (jpInstr cc w, if cond cc s then w else s.pc + 3, if cond cc s then 16 else 12)]) :
    ∃ len, exec form.1 s = .next (jumpTo form.2.1 (retire len form.2.2 s)) := by
  simp only [List.mem_cons, List.not_mem_nil, or_false] at h
  obtain rfl | rfl | rfl := h
  · exact ⟨3, rfl⟩
  · exact ⟨1, rfl⟩
  · refine ⟨3, (exec_jp cc w s).trans ?_⟩
    cases cond cc s <;> rfl

/-- Settles O29: every form is a jump to its target. -/
theorem absoluteJumps : Obligations.AbsoluteJumps := by
  intro w cc s form hform
  obtain ⟨len, hexec⟩ := exec_absoluteJumps w cc s form hform
  exact ⟨_, hexec, jumpTo_retire form.2.1 len form.2.2 s⟩

/-- Where a relative jump goes: the base is the address after the two bytes of the instruction (D34). -/
def relativeTarget (e : Byte) (taken : Bool) (s : State) : Word :=
  s.pc + 2 + if taken then sext16 e else 0#16

theorem relativeTarget_true (e : Byte) (s : State) : relativeTarget e true s = s.pc + 2 + sext16 e := rfl

theorem relativeTarget_false (e : Byte) (s : State) : relativeTarget e false s = s.pc + 2 := BitVec.add_zero _

/-- The target in exact arithmetic, a displacement not taken counting as 0. -/
theorem toNat_relativeTarget (e : Byte) (taken : Bool) (s : State) :
    ((relativeTarget e taken s).toNat : Int) =
      ((s.pc.toNat : Int) + 2 + (if taken then e.toInt else 0)) % 65536 := by
  have hnext : (s.pc + 2).toNat = (s.pc.toNat + 2) % 65536 := BitVec.toNat_add _ _
  cases taken with
  | true =>
    rw [relativeTarget_true, toNat_add_sext16, hnext, if_pos rfl]
    omega
  | false =>
    rw [relativeTarget_false, hnext, if_neg Bool.false_ne_true]
    omega

theorem exec_relativeJumps (e : Byte) (cc : Cond) (s : State) (form : Instr × Bool × Nat)
    (h : form ∈ [(Instr.jrE8 e, true, 12), (jrInstr cc e, cond cc s, if cond cc s then 12 else 8)]) :
    exec form.1 s = .next (jumpTo (relativeTarget e form.2.1 s) (retire 2 form.2.2 s)) := by
  simp only [List.mem_cons, List.not_mem_nil, or_false] at h
  obtain rfl | rfl := h
  · rfl
  · rw [exec_jr]
    cases cond cc s with
    | true => rfl
    | false => rw [relativeTarget_false]; rfl

/-- Settles O30: both forms are a jump to the relative target. -/
theorem relativeJumps : Obligations.RelativeJumps := by
  intro e cc s form hform
  obtain ⟨hpc, hcycles, hframe, hkept⟩ := jumpTo_retire (relativeTarget e form.2.1 s) 2 form.2.2 s
  exact ⟨_, exec_relativeJumps e cc s form hform, hpc ▸ toNat_relativeTarget e form.2.1 s, hcycles, hframe, hkept⟩

/-! ### Calls -/

/-- A call writes SP, stores the return address there and jumps (R60, R236). -/
theorem callTo_eq (target : Word) (s : State) :
    callTo target s = jumpTo target (write16 (s.sp - 2) s.pc (setPair .sp (s.sp - 2) s)) := rfl

/-- What a call does to PC, SP, the stack and the cycle total, and what it leaves unchanged. -/
theorem callTo_retire (target : Word) (len cost : Nat) {s : State} (hm : s.mem.wf = true) :
    (callTo target (retire len cost s)).pc = target ∧ (callTo target (retire len cost s)).sp = s.sp - 2 ∧
      (callTo target (retire len cost s)).f = s.f ∧
      StoresWord (s.sp - 2) (s.pc + BitVec.ofNat 16 len) s (callTo target (retire len cost s)) ∧
      StoreFrame [] s (callTo target (retire len cost s)) ∧
      (callTo target (retire len cost s)).cycles = s.cycles + cost := by
  rw [callTo_eq, retire_sp, retire_pc]
  obtain ⟨hsp, hframe, hf, -, hcycles⟩ := setPair_retire .sp (s.sp - 2) len cost s
  exact ⟨rfl, (write16_sp _ _ _).trans hsp, (write16_f _ _ _).trans hf,
    storesWord_jumpTo target (storesWord_write16_of_mem _ _ hm (setPair_mem .sp _ _)),
    storeFrame_jumpTo target (storeFrame_write16 _ _ (storeFrame_of_registerFrame hframe)),
    (write16_cycles _ _ _).trans hcycles⟩

theorem exec_callA16 (w : Word) (s : State) : exec (.callA16 w) s = .next (callTo w (retire 3 24 s)) := rfl

/-- The calls without a condition. -/
theorem exec_unconditionalCalls (w : Word) (ttt : BitVec 3) (s : State) (form : Instr × Word × Nat × Nat)
    (h : form ∈ [(Instr.callA16 w, w, 3, 24), (rstInstr ttt, BitVec.ofNat 16 (ttt.toNat * 8), 1, 16)]) :
    exec form.1 s = .next (callTo form.2.1 (retire form.2.2.1 form.2.2.2 s)) := by
  simp only [List.mem_cons, List.not_mem_nil, or_false] at h
  obtain rfl | rfl := h
  · exact exec_callA16 w s
  · exact exec_rst ttt s

/-- Settles O31: a call taken is `callTo`, whatever its form; one not taken only retires. -/
theorem callsPushReturnAddress : Obligations.CallsPushReturnAddress := by
  intro w cc ttt s hm
  refine ⟨fun form hform =>
    ⟨_, exec_unconditionalCalls w ttt s form hform, callTo_retire form.2.1 form.2.2.1 form.2.2.2 hm⟩, ?_⟩
  rw [exec_call]
  by_cases hcond : cond cc s = true
  · obtain ⟨hpc, hsp, hf, hstores, hframe, hcycles⟩ := callTo_retire w 3 24 hm
    simp only [if_pos hcond]
    exact ⟨_, rfl, hf, hframe, hpc, hsp, hstores, hcycles⟩
  · have hframe := frame_retire 3 12 s
    simp only [if_neg hcond]
    exact ⟨_, rfl, rfl, storeFrame_of_registerFrame hframe, rfl, rfl, hframe.memory, rfl⟩

/-! ### Returns -/

/-- A return writes SP and jumps to the word read at the old SP (R61, R238). -/
theorem returnPop_eq (s : State) : returnPop s = jumpTo (popValue s) (setPair .sp (s.sp + 2) s) := rfl

/-- What a return does to PC, SP and the cycle total, and what it leaves unchanged. -/
theorem returnPop_retire (len cost : Nat) (s : State) :
    (returnPop (retire len cost s)).pc = wordOf (read8 (s.sp + 1) s) (read8 s.sp s) ∧
      (returnPop (retire len cost s)).sp = s.sp + 2 ∧ (returnPop (retire len cost s)).f = s.f ∧
      RegisterFrame [] s (returnPop (retire len cost s)) ∧
      (returnPop (retire len cost s)).cycles = s.cycles + cost := by
  rw [returnPop_eq, retire_sp]
  obtain ⟨hsp, hframe, hf, -, hcycles⟩ := setPair_retire .sp (s.sp + 2) len cost s
  exact ⟨rfl, hsp, hf, registerFrame_jumpTo _ hframe, hcycles⟩

theorem exec_retUnconditional (s : State) : exec .ret s = .next (returnPop (retire 1 16 s)) := rfl

theorem exec_reti (s : State) : exec .reti s = .next (setIme true (returnPop (retire 1 16 s))) := rfl

@[simp] theorem getReg8_setIme (r : Reg8) (on : Bool) (s : State) : getReg8 r (setIme on s) = getReg8 r s := by
  cases r <;> rfl

theorem deviceKept_setIme (on : Bool) {s t : State} (h : DeviceKept s t) : DeviceKept s (setIme on t) :=
  ⟨h.dot, h.line, h.frameReady, h.fb, h.fault⟩

/-- Settles O32: RET, RETI and a conditional return taken are one return, RETI with a write of IME after it. -/
theorem returnsPopProgramCounter : Obligations.ReturnsPopProgramCounter := by
  intro cc s
  refine ⟨⟨_, exec_retUnconditional s, returnPop_retire 1 16 s⟩, ?_, ?_⟩
  · obtain ⟨hpc, hsp, hf, hframe, hcycles⟩ := returnPop_retire 1 16 s
    exact ⟨_, exec_reti s, hpc, hsp, hf, rfl, fun r hr => (getReg8_setIme r true _).trans (hframe.regs r hr),
      hframe.memory, deviceKept_setIme true hframe.device, hcycles⟩
  · rw [exec_ret]
    by_cases hcond : cond cc s = true
    · obtain ⟨hpc, hsp, hf, hframe, hcycles⟩ := returnPop_retire 1 20 s
      simp only [if_pos hcond]
      exact ⟨_, rfl, hf, hframe, hpc, hsp, hcycles⟩
    · simp only [if_neg hcond]
      exact ⟨_, rfl, rfl, frame_retire 1 8 s, rfl, rfl, rfl⟩

/-! ### A call and its return -/

/-- Where the guard drops neither byte, the word stored is read back. -/
theorem wordOf_read8_of_storesWord {addr v : Word} {s t : State} (h : StoresWord addr v s t)
    (hlow : 0x8000 ≤ addr.toNat) (hhigh : 0x8000 ≤ (addr + 1).toNat) :
    wordOf (read8 (addr + 1) t) (read8 addr t) = v := by
  rw [h.low, h.high, if_neg (Nat.not_lt.mpr hlow), if_neg (Nat.not_lt.mpr hhigh), wordOf_bytes]

/-- Settles O33: the return pops the word that the call pushed, which both stack bytes being writable (C8) makes the
address after the call. -/
theorem callThenReturnRestores : Obligations.CallThenReturnRestores := by
  intro w s hm hlow hhigh
  obtain ⟨-, hcallSp, -, hstores, -, hcallCycles⟩ := callTo_retire w 3 24 hm
  obtain ⟨hretPc, hretSp, -, -, hretCycles⟩ := returnPop_retire 1 16 (callTo w (retire 3 24 s))
  have hnext : s.sp - 2 + 1 = s.sp - 1 := by bv_omega
  refine ⟨_, _, exec_callA16 w s, exec_retUnconditional _, ?_, ?_, ?_⟩
  · rw [hretPc, hcallSp]
    exact wordOf_read8_of_storesWord hstores hlow (hnext ▸ hhigh)
  · rw [hretSp, hcallSp, BitVec.sub_add_cancel]
  · rw [hretCycles, hcallCycles]

end Sys2Proof.Proofs.Control
end

section
/-! PROOFS. Miscellaneous, system and undefined opcodes (spec/46_misc.md R250 to R256). NOP, DI and EI are one write of IME
after `retire`; HALT, STOP and the undefined bytes are one table, `fatalForms`, whose rows raise UnimplementedOpcode with
their own byte, so a step on one records that byte whether its interpreter runs the row or leaves it out. -/

namespace Sys2Proof.Proofs.Misc

open Sys2Proof Sys2Proof.Machine Sys2Proof.Safety
open Sys2Proof.Proofs.Control (getReg8_setIme deviceKept_setIme)
open Sys2Proof.Proofs.Encoding (stepWith_of_decode_error stepWith_of_decode_ok settle_next)

/-! ### NOP, DI and EI -/

/-- NOP too is a write of IME: of the value that IME has (R250 to R252). -/
theorem exec_imeForms (s : State) (form : Instr × Bool) (h : form ∈ [(Instr.nop, s.ime), (.di, false), (.ei, true)]) :
    exec form.1 s = .next (setIme form.2 (retire 1 4 s)) := by
  simp only [List.mem_cons, List.not_mem_nil, or_false] at h
  obtain rfl | rfl | rfl := h <;> rfl

/-- Writing IME after `retire` touches nothing but IME, PC and the cycle total. -/
theorem setIme_retire (on : Bool) (len cost : Nat) (s : State) :
    (setIme on (retire len cost s)).ime = on ∧ RegsKept [] s (setIme on (retire len cost s)) ∧
      MemoryKept s (setIme on (retire len cost s)) ∧ DeviceKept s (setIme on (retire len cost s)) ∧
      FlagsAndStackKept s (setIme on (retire len cost s)) ∧ Retires len cost s (setIme on (retire len cost s)) := by
  obtain ⟨hregs, hmemory, -, hdevice⟩ := frame_retire len cost s
  exact ⟨rfl, fun r hr => (getReg8_setIme r on _).trans (hregs r hr), hmemory, deviceKept_setIme on hdevice, ⟨rfl, rfl⟩,
    ⟨rfl, rfl⟩⟩

/-- Settles O34: each form writes IME after `retire`. -/
theorem nopAndInterruptLatch : Obligations.NopAndInterruptLatch := fun s form hform =>
  ⟨_, exec_imeForms s form hform, setIme_retire form.2 1 4 s⟩

/-! ### HALT, STOP and the undefined bytes -/

/-- The rows of the primary map that raise UnimplementedOpcode by themselves, with the byte each reports (R253 to R255). -/
def fatalForms : List (Instr × Byte) :=
  [(.halt, 0x76), (.stop, 0x10), (.undefinedD3, 0xD3), (.undefinedDB, 0xDB), (.undefinedDD, 0xDD), (.undefinedE3, 0xE3),
    (.undefinedE4, 0xE4), (.undefinedEB, 0xEB), (.undefinedEC, 0xEC), (.undefinedED, 0xED), (.undefinedF4, 0xF4),
    (.undefinedFC, 0xFC), (.undefinedFD, 0xFD)]

theorem exec_fatalForms (s : State) : ∀ form ∈ fatalForms, exec form.1 s = .next (raiseUnimplemented [form.2] s) := by
  simp only [fatalForms, List.forall_mem_cons]
  exact ⟨rfl, rfl, rfl, rfl, rfl, rfl, rfl, rfl, rfl, rfl, rfl, rfl, rfl, by simp⟩

/-- STOP alone has a byte after it (R254). -/
theorem primary_fatalForms :
    ∀ form ∈ fatalForms, primary form.2 = .plain form.1 ∨ primary form.2 = .padded form.1 := by
  simp only [fatalForms, List.forall_mem_cons]
  exact ⟨.inl rfl, .inr rfl, .inl rfl, .inl rfl, .inl rfl, .inl rfl, .inl rfl, .inl rfl, .inl rfl, .inl rfl, .inl rfl,
    .inl rfl, .inl rfl, by simp⟩

/-- Settles O35: a row of `fatalForms` reports its own byte, and `prefixCb` reports 0xCB and the second byte (R256). -/
theorem unimplementedOpcodeRecorded : Obligations.UnimplementedOpcodeRecorded := by
  intro s op2 form hform
  change form ∈ fatalForms.map (fun row => (row.1, [row.2])) ++ [(Instr.prefixCb op2, [0xCB, op2])] at hform
  obtain hrow | hcbPage := List.mem_append.mp hform
  · obtain ⟨row, hmem, rfl⟩ := List.mem_map.mp hrow
    exact exec_fatalForms s row hmem
  · obtain rfl := List.mem_singleton.mp hcbPage
    rfl

/-! ### A step on a fatal byte -/

section
variable {k : Config.Interpreter} {s : State} {form : Instr × Byte}

/-- A fatal byte is a decode failure where the interpreter leaves it out, and its row's instruction otherwise. -/
theorem decodeWith_fatalForm (hform : form ∈ fatalForms) (rest : List Byte) :
    decodeWith k (form.2 :: rest) = .error (.notImplemented form.2) ∨
      ∃ after, decodeWith k (form.2 :: rest) = .ok (form.1, after) := by
  obtain hplain | hpadded := primary_fatalForms form hform
  · rw [decodeWith_plain k _ _ rest hplain]
    split
    · exact .inl rfl
    · exact .inr ⟨rest, rfl⟩
  · exact .inr ⟨_, decodeWith_padded k _ _ rest hpadded⟩

/-- The decode failure and the instruction write the same record, and no tick follows a fault (R262, R301). -/
theorem stepWith_fatalForm (hfault : s.fault = none) (hform : form ∈ fatalForms) (hop : form.2 = read8 s.pc s) :
    stepWith k s = .next (raiseUnimplemented [read8 s.pc s] s) := by
  have hdecode := decodeWith_fatalForm (k := k) hform [read8 (s.pc + 1) s, read8 (s.pc + 2) s]
  have hexec := exec_fatalForms s form hform
  rw [hop] at hdecode hexec
  obtain herror | ⟨_, hok⟩ := hdecode
  · exact stepWith_of_decode_error hfault herror
  · rw [stepWith_of_decode_ok hfault hok, hexec, settle_next, raiseUnimplemented_fault, if_neg (Option.some_ne_none _)]

/-- The record is all that UnimplementedOpcode writes (R262). -/
theorem raiseUnimplemented_without_record (bytes : List Byte) (hfault : s.fault = none) :
    { raiseUnimplemented bytes s with fault := none } = s := by
  rw [← hfault]
  rfl

end

/-- The fatal bytes are those of `fatalForms`. -/
theorem exists_fatalForm {op : Byte} (h : op.toNat ∈ fatalForms.map (fun form => form.2.toNat)) :
    ∃ form ∈ fatalForms, form.2 = op := by
  obtain ⟨form, hform, hop⟩ := List.mem_map.mp h
  exact ⟨form, hform, BitVec.eq_of_toNat_eq hop⟩

/-- Settles O36: the byte at PC is the byte of a row of `fatalForms`, which any interpreter reports. -/
theorem fatalByteEndsRun : Obligations.FatalByteEndsRun := by
  intro k s hfault hbyte
  obtain ⟨form, hform, hop⟩ := exists_fatalForm hbyte
  exact ⟨_, stepWith_fatalForm hfault hform hop, rfl, rfl, raiseUnimplemented_without_record _ hfault⟩

end Sys2Proof.Proofs.Misc
end

section
/-! PROOFS. The display (spec/60_exceptions.md R271 to R281): what a tick does inside a line and with each line it enters,
what a pixel is, and where in the frame, and with which LY, a number of ticks ends. -/

namespace Sys2Proof.Proofs.Display

open Sys2Proof Sys2Proof.Machine Sys2Proof.Safety
open Sys2Proof.Proofs.RotateShiftBit (getLsbD_eq_decide)

/-! ### A tick -/

theorem enterLine_visible {s : State} (h : s.line < 144) :
    enterLine s = rasterize s.line (write8 lyAddr (BitVec.ofNat 8 s.line) s) := if_pos h

theorem enterLine_frameDone {s : State} (h : s.line = 144) :
    enterLine s = { write8 lyAddr 144 s with frameReady := true } :=
  (if_neg (Nat.not_lt.mpr (Nat.le_of_eq h.symm))).trans (if_pos h)

theorem enterLine_verticalBlank {s : State} (h : 144 < s.line) : enterLine s = s :=
  (if_neg (Nat.lt_asymm h)).trans (if_neg (Nat.ne_of_gt h))

theorem tick_insideLine {s : State} (h : s.dot ≠ 455) : tick s = { s with dot := s.dot + 1 } :=
  if_neg fun hlast => h (Nat.succ.inj hlast)

theorem tick_nextLine {s : State} (hdot : s.dot = 455) (hline : s.line ≠ 153) :
    tick s = enterLine { s with dot := 0, line := s.line + 1 } :=
  (if_pos (congrArg Nat.succ hdot)).trans (if_neg fun hlast => hline (Nat.succ.inj hlast))

theorem tick_nextFrame {s : State} (hdot : s.dot = 455) (hline : s.line = 153) :
    tick s = enterLine { s with dot := 0, line := 0, frameReady := false } :=
  (if_pos (congrArg Nat.succ hdot)).trans (if_pos (congrArg Nat.succ hline))

theorem tick_verticalBlank {s : State} (hdot : s.dot = 455) (hlo : 144 ≤ s.line) (hhi : s.line < 153) :
    tick s = { s with dot := 0, line := s.line + 1 } := by
  rw [tick_nextLine hdot (Nat.ne_of_lt hhi)]
  exact enterLine_verticalBlank (Nat.lt_succ_of_le hlo)

theorem tick_frameDone {s : State} (hdot : s.dot = 455) (hline : s.line = 143) :
    tick s = { write8 lyAddr 144 { s with dot := 0, line := s.line + 1 } with frameReady := true } := by
  rw [tick_nextLine hdot (by omega)]
  exact enterLine_frameDone (congrArg Nat.succ hline)

/-- The tick that enters a visible line, whether it passes the end of the frame or not (R272, R275). -/
theorem tick_visible {s : State} {ly : Nat} (hdot : s.dot = 455) (hly : ly < 144)
    (h : s.line + 1 = ly ∨ (s.line = 153 ∧ ly = 0)) :
    ∃ ready, tick s =
      rasterize ly (write8 lyAddr (BitVec.ofNat 8 ly) { s with dot := 0, line := ly, frameReady := ready }) := by
  obtain rfl | ⟨hline, rfl⟩ := h
  · exact ⟨s.frameReady, (tick_nextLine hdot (by omega)).trans (enterLine_visible hly)⟩
  · exact ⟨false, (tick_nextFrame hdot hline).trans (enterLine_visible hly)⟩

/-- The store to LY passes the guard from any state with the same memory (R53, R273). -/
theorem storesByte_ly (v : Byte) {s s' t : State} (hm : s.mem.wf = true) (hs' : s'.mem = s.mem)
    (ht : t.mem = (write8 lyAddr v s').mem) : StoresByte 0xFF44 v s t where
  stored := by
    rw [read8_of_mem _ _ _ ht]
    exact read8_write8_same lyAddr v s' (hs' ▸ hm)
  others a ha := by
    rw [read8_of_mem _ _ _ ht, read8_write8_other lyAddr a v s' ha, read8_of_mem _ _ _ hs']

theorem storesByte_tick_frameDone {s : State} (hm : s.mem.wf = true) (hdot : s.dot = 455) (hline : s.line = 143) :
    StoresByte 0xFF44 144 s (tick s) := by
  rw [tick_frameDone hdot hline]
  exact storesByte_ly 144 hm rfl rfl

theorem storesByte_tick_visible {s : State} {ly : Nat} (hm : s.mem.wf = true) (hdot : s.dot = 455) (hly : ly < 144)
    (h : s.line + 1 = ly ∨ (s.line = 153 ∧ ly = 0)) : StoresByte 0xFF44 (BitVec.ofNat 8 ly) s (tick s) := by
  obtain ⟨ready, htick⟩ := tick_visible hdot hly h
  rw [htick]
  exact storesByte_ly _ hm rfl rfl

/-- Settles O51: one equation of `tick` for each of the three places in the frame. -/
theorem tickOutsideVisibleLines : Obligations.TickOutsideVisibleLines := by
  intro s
  refine ⟨fun hdot => tick_insideLine (Nat.ne_of_lt hdot), fun hm hdot hline => ?_, tick_verticalBlank⟩
  have hdisplay := tick_display s
  obtain ⟨hdot', hline', hready'⟩ := tick_counters s
  refine ⟨by rw [hdot', if_pos hdot], by rw [hline', if_pos hdot, hline]; rfl, ?_, ?_,
    storesByte_tick_frameDone hm hdot hline, hdisplay.pc, hdisplay.cycles, hdisplay.regs⟩
  · rw [hready', if_pos hdot, hline]
    rfl
  · rw [tick_frameDone hdot hline]
    exact write8_fb _ _ _

/-- Settles O52: the row is drawn after LY is written and changes no memory, so its pixels are those of the memory that
the tick leaves. -/
theorem tickEntersVisibleLine : Obligations.TickEntersVisibleLine := by
  intro s ly hm hdot hly henter
  have hdisplay := tick_display s
  obtain ⟨hdot', hline', hready'⟩ := tick_counters s
  obtain ⟨ready, htick⟩ := tick_visible hdot hly henter
  refine ⟨by rw [hdot', if_pos hdot], ?_, ?_, storesByte_tick_visible hm hdot hly henter, ?_,
    hdisplay.pc, hdisplay.cycles, hdisplay.regs⟩
  · rw [hline', if_pos hdot]
    split <;> omega
  · have hnot : s.line ≠ 143 := by omega
    rw [hready', if_pos hdot, decide_eq_false hnot, Bool.false_or]
  · rw [htick]
    exact congrArg (List.set · ly _) (write8_fb _ _ _)

/-! ### A pixel -/

/-- The palette as a list of shades, indexed by the two bits (R277). -/
theorem palette_eq_getElem? (hi lo : Nat) :
    [Shade.white, .lightGray, .darkGray, .black][hi % 2 * 2 + lo % 2]? =
      some (palette (decide (hi % 2 = 1)) (decide (lo % 2 = 1))) := by
  obtain hhi | hhi := Nat.mod_two_eq_zero_or_one hi <;> obtain hlo | hlo := Nat.mod_two_eq_zero_or_one lo <;>
    rw [hhi, hlo] <;> rfl

/-- Settles O53: a pixel is the palette entry of two bits, each of which is a quotient by a power of two, mod 2. -/
theorem pixelFollowsTileMap : Obligations.PixelFollowsTileMap := by
  intro s ly x sy sx t lo hi
  rw [palette_eq_getElem?, ← getLsbD_eq_decide, ← getLsbD_eq_decide]
  rfl

/-! ### The place in the frame -/

/-- The ranges of the display's counters (R32). -/
structure InFrame (s : State) : Prop where
  dot  : s.dot < 456
  line : s.line < 154

theorem inFrame_tick {s : State} (hs : InFrame s) : InFrame (tick s) :=
  ⟨StepInvariant.tick_dot_lt hs.dot, StepInvariant.tick_line_lt hs.line⟩

theorem inFrame_ticks (n : Nat) {s : State} (hs : InFrame s) : InFrame (ticks n s) := by
  induction n generalizing s with
  | zero => exact hs
  | succ n ih => exact ih (inFrame_tick hs)

theorem position_lt {s : State} (hs : InFrame s) : position s < 70224 := by
  obtain ⟨hdot, hline⟩ := hs
  unfold position
  omega

/-- A tick is one dot, and the last dot of the last line is followed by the first (R272, R280). -/
theorem position_tick {s : State} (hs : InFrame s) : position (tick s) = (position s + 1) % 70224 := by
  obtain ⟨hdot, hline⟩ := hs
  obtain ⟨hdot', hline', -⟩ := tick_counters s
  unfold position
  rw [hdot', hline']
  by_cases hd : s.dot = 455
  · by_cases hl : s.line = 153
    · rw [if_pos hd, if_pos hd, if_pos hl, hd, hl]
    · rw [if_pos hd, if_pos hd, if_neg hl]
      omega
  · rw [if_neg hd, if_neg hd]
    omega

theorem position_ticks (n : Nat) {s : State} (hs : InFrame s) :
    position (ticks n s) = (position s + n) % 70224 := by
  induction n generalizing s with
  | zero => rw [Nat.add_zero, Nat.mod_eq_of_lt (position_lt hs), ticks]
  | succ n ih =>
    calc position (ticks n (tick s)) = (position (tick s) + n) % 70224 := ih (inFrame_tick hs)
      _ = (position s + (n + 1)) % 70224 := by rw [position_tick hs]; omega

/-- From the start of a frame, 456 ticks are one line (R280). -/
theorem counters_after_lines {s : State} (hdot : s.dot = 0) (hline : s.line = 0) (k : Nat) :
    (ticks (456 * k) s).dot = 0 ∧ (ticks (456 * k) s).line = k % 154 := by
  have hs : InFrame s := ⟨by omega, by omega⟩
  have hplace := position_ticks (456 * k) hs
  obtain ⟨hdot', hline'⟩ := inFrame_ticks (456 * k) hs
  simp only [position, hdot, hline] at hplace
  omega

/-- Frame-ready stays raised exactly in lines 144 to 153 (R278). -/
theorem frameReady_ticks (n : Nat) {s : State} (hline : s.line < 154)
    (h : s.frameReady = decide (144 ≤ s.line)) :
    (ticks n s).frameReady = decide (144 ≤ (ticks n s).line) := by
  induction n generalizing s with
  | zero => exact h
  | succ n ih => exact ih (StepInvariant.tick_line_lt hline) (StepInvariant.tick_frameReady hline h)

/-- Settles O54: the place in the frame gives both counters, and the line gives frame-ready. -/
theorem frameTiming : Obligations.FrameTiming := by
  intro s k hdot hline hready _
  obtain ⟨hdot', hline'⟩ := counters_after_lines hdot hline k
  have hready' := frameReady_ticks (456 * k) (s := s) (by omega) (by rw [hready, hline]; rfl)
  exact ⟨hdot', hline', hline' ▸ hready'⟩

/-! ### LY -/

theorem ticks_insideLine {n : Nat} {s : State} (h : s.dot + n < 456) : ticks n s = { s with dot := s.dot + n } := by
  induction n generalizing s with
  | zero => rfl
  | succ n ih =>
    have hnext : tick s = { s with dot := s.dot + 1 } := tick_insideLine (by omega)
    rw [ticks, hnext, ih (by change s.dot + 1 + n < 456; omega)]
    simp only [Nat.add_right_comm, Nat.add_assoc]

theorem ticks_line {s : State} (hdot : s.dot = 0) : ticks 456 s = tick { s with dot := 455 } := by
  rw [ticks_succ_last, ticks_insideLine (by omega), hdot]

/-- LY is written on entering lines 0 to 144 and on no other line (R273, R279). -/
theorem read8_ly_tick {s : State} (hm : s.mem.wf = true) (hdot : s.dot = 455) (hline : s.line < 154) :
    read8 0xFF44 (tick s) =
      if s.line = 153 then 0 else if s.line < 144 then BitVec.ofNat 8 (s.line + 1) else read8 0xFF44 s := by
  by_cases hlast : s.line = 153
  · rw [if_pos hlast]
    exact (storesByte_tick_visible hm hdot (by omega) (.inr ⟨hlast, rfl⟩)).stored
  · rw [if_neg hlast]
    obtain hvisible | hdone | hblank : s.line < 143 ∨ s.line = 143 ∨ 144 ≤ s.line := by omega
    · rw [if_pos (by omega)]
      exact (storesByte_tick_visible hm hdot (by omega) (.inl rfl)).stored
    · rw [if_pos (by omega), hdone]
      exact (storesByte_tick_frameDone hm hdot hdone).stored
    · rw [if_neg (Nat.not_lt.mpr hblank), tick_verticalBlank hdot hblank (by omega)]
      rfl

/-- The same for a whole line, since only the last of its ticks is not inside it. -/
theorem read8_ly_ticks_line {s : State} (hm : s.mem.wf = true) (hdot : s.dot = 0) (hline : s.line < 154) :
    read8 0xFF44 (ticks 456 s) =
      if s.line = 153 then 0 else if s.line < 144 then BitVec.ofNat 8 (s.line + 1) else read8 0xFF44 s := by
  rw [ticks_line hdot]
  exact read8_ly_tick (s := { s with dot := 455 }) hm rfl hline

/-- LY after the lines of one frame (R273, R279, R280). -/
theorem read8_ly_after_lines {s : State} (hm : s.mem.wf = true) (hdot : s.dot = 0) (hline : s.line = 0) (k : Nat)
    (hk : k < 154) :
    read8 0xFF44 (ticks (456 * (k + 1)) s) = if k = 153 then 0 else BitVec.ofNat 8 (min (k + 1) 144) := by
  induction k with
  | zero =>
    rw [Nat.zero_add, Nat.mul_one, read8_ly_ticks_line hm hdot (by omega), hline]
    rfl
  | succ k ih =>
    obtain ⟨hdot', hline'⟩ := counters_after_lines hdot hline (k + 1)
    rw [Nat.mod_eq_of_lt hk] at hline'
    have hm' := (ticks_display (456 * (k + 1)) s).wf hm
    rw [Nat.mul_succ, ticks_add, read8_ly_ticks_line hm' hdot' (by rw [hline']; exact hk), hline', ih (by omega),
      if_neg (show k ≠ 153 by omega)]
    by_cases hvisible : k + 1 < 144
    · rw [if_pos hvisible, Nat.min_eq_left hvisible]
    · rw [if_neg hvisible, Nat.min_eq_right (by omega), Nat.min_eq_right (by omega)]

/-- Settles O55: LY is at most 144, so the byte is the number. -/
theorem lineRegisterTiming : Obligations.LineRegisterTiming := by
  intro s k hm hdot hline hlo hhi
  obtain ⟨k, rfl⟩ := Nat.exists_eq_add_of_le' hlo
  rw [read8_ly_after_lines hm hdot hline k (by omega)]
  by_cases hlast : k = 153
  · rw [if_pos hlast, if_pos (congrArg Nat.succ hlast)]
    rfl
  · rw [if_neg hlast, if_neg (fun h => hlast (Nat.succ.inj h)), BitVec.toNat_ofNat]
    omega

/-- Settles O56: the part of `DisplayOnly` that is not about the framebuffer's size. -/
theorem ticksWriteOnlyDisplayState : Obligations.TicksWriteOnlyDisplayState := by
  intro n s
  have h := ticks_display n s
  exact ⟨h.memory, h.regs, h.f, h.sp, h.pc, h.ime, h.cycles, h.fault⟩

end Sys2Proof.Proofs.Display
end

section
/-! PROOFS. A system step and the display (spec/70_reset_and_hazards.md R300 to R302, R308, R309, spec/60_exceptions.md
R262, R283): a step always answers a state, it moves the display on by the cycles it adds, and it draws nothing while
frame-ready stays raised. -/

namespace Sys2Proof.Proofs.StepDisplay

open Sys2Proof Sys2Proof.Machine Sys2Proof.Safety
open Sys2Proof.Proofs.Display
open Sys2Proof.Proofs.StepInvariant (runInstr_effect stepWith_cases)

/-! ### A step always answers -/

/-- Settles O38: the first look of a step is at the fault record. -/
theorem faultedStateIsTerminal : Obligations.FaultedStateIsTerminal := by
  intro k s hfault
  obtain ⟨r, hr⟩ := Option.ne_none_iff_exists'.mp hfault
  simp only [stepWith, hr]

/-- Settles O44: the CPU's part of a step answers a state whatever the bytes at PC are, and the ticks that follow answer
one as well. -/
theorem stepIsTotal : Obligations.StepIsTotal := by
  intro k s
  by_cases hfault : s.fault = none
  · obtain ⟨u, -, hrun⟩ := runInstr_effect k s
    have hstep : stepWith k s = settle s (.next u) := by simp only [stepWith, hfault, hrun]
    exact ⟨_, hstep.trans Encoding.settle_next⟩
  · exact ⟨s, faultedStateIsTerminal k s hfault⟩

/-! ### The display moves by the cost -/

theorem position_of_deviceKept {s t : State} (h : DeviceKept s t) : position t = position s := by
  rw [position, position, h.dot, h.line]

theorem inFrame_of_deviceKept {s t : State} (h : DeviceKept s t) (hs : Inv s) : InFrame t :=
  ⟨h.dot ▸ hs.dotRange, h.line ▸ hs.lineRange⟩

/-- A step either adds no cycle, leaves the display alone and ends in a fault, or adds a cost of 4 to 24 and then runs as
many ticks (R300 to R302, R308). -/
theorem stepWith_display {k : Config.Interpreter} {s t : State} (h : stepWith k s = .next t) :
    (t.fault ≠ none ∧ t.cycles = s.cycles ∧ position t = position s ∧ t.fb = s.fb) ∨
    ∃ cost u, 4 ≤ cost ∧ cost ≤ 24 ∧ DeviceKept s u ∧ u.cycles = s.cycles + cost ∧ t = ticks cost u := by
  obtain ⟨hfault, rfl⟩ | ⟨hfault, u, heffect, hsettle⟩ := stepWith_cases h
  · exact .inl ⟨hfault, rfl, rfl, rfl⟩
  cases heffect with
  | raised bytes =>
    obtain ⟨hraised, rfl⟩ | ⟨hnone, -⟩ := hsettle
    · exact .inl ⟨hraised, rfl, rfl, rfl⟩
    · exact absurd hnone (Option.some_ne_none _)
  | ran len cost _ hlo hhi hquiet =>
    obtain ⟨hsome, -⟩ | ⟨-, rfl⟩ := hsettle
    · exact absurd (hquiet.device.fault.trans hfault) hsome
    · obtain ⟨hdot, hline, hready, hfb, hkept⟩ := hquiet.device
      have hcycles : u.cycles = s.cycles + cost := hquiet.cycles
      refine .inr ⟨cost, u, hlo, hhi, ⟨hdot, hline, hready, hfb, hkept⟩, hcycles, ?_⟩
      rw [owedTicks, hcycles, Nat.add_sub_cancel_left]

/-- Settles O48: a tick is one dot, and a step that does not fault runs as many ticks as its cost. -/
theorem stepMovesDisplayByCost : Obligations.StepMovesDisplayByCost := by
  intro k s t hs hstep
  obtain ⟨hfault, hcycles, hplace, -⟩ | ⟨cost, u, hlo, hhi, hdevice, hcycles, rfl⟩ := stepWith_display hstep
  · rw [hplace, hcycles, Nat.sub_self, Nat.add_zero]
    exact ⟨rfl, Nat.le_refl _, fun hnone => absurd hnone hfault⟩
  · have hu := inFrame_of_deviceKept hdevice hs
    rw [position_ticks cost hu, position_of_deviceKept hdevice, (ticks_display cost u).cycles, hcycles,
      Nat.add_sub_cancel_left]
    exact ⟨Nat.mod_mod _ _, by omega, fun _ => by omega⟩

/-! ### The framebuffer while frame-ready is raised -/

/-- The first dot of line 144, where the vertical blank begins (R278). -/
def blankStart : Nat := 144 * 456

theorem frameReady_iff_blank {s : State} (hs : Inv s) : s.frameReady = true ↔ blankStart ≤ position s := by
  obtain ⟨-, -, hdot, -, -, -, hready⟩ := hs
  rw [hready, decide_eq_true_eq, blankStart, position]
  omega

/-- No line is drawn between the start of the vertical blank and the end of the frame (R274, R278, R279). -/
theorem tick_fb_of_blank {s : State} (hs : InFrame s) (hlo : blankStart ≤ position s) (hhi : position s + 1 < 70224) :
    (tick s).fb = s.fb := by
  obtain ⟨hdot, -⟩ := hs
  unfold blankStart position at hlo
  unfold position at hhi
  by_cases hlast : s.dot = 455
  · rw [tick_verticalBlank hlast (by omega) (by omega)]
  · rw [tick_insideLine hlast]

theorem ticks_fb_of_blank {n : Nat} {s : State} (hs : InFrame s) (hlo : blankStart ≤ position s)
    (hhi : position s + n < 70224) : (ticks n s).fb = s.fb := by
  induction n generalizing s with
  | zero => rfl
  | succ n ih =>
    have hnext : position (tick s) = position s + 1 :=
      (position_tick hs).trans (Nat.mod_eq_of_lt (by omega))
    calc (ticks n (tick s)).fb = (tick s).fb := ih (inFrame_tick hs) (by omega) (by omega)
      _ = s.fb := tick_fb_of_blank hs hlo (by omega)

/-- Settles O57: a step that runs past the end of the frame ends in line 0, where frame-ready is clear; any other
stays in the vertical blank, where nothing is drawn. -/
theorem framebufferStableWhileReady : Obligations.FramebufferStableWhileReady := by
  intro k s t hs hstep hready hready'
  have hblank := (frameReady_iff_blank hs).mp hready
  have hblank' := (frameReady_iff_blank (StepInvariant.stepKeepsInvariant k s t hs hstep)).mp hready'
  obtain ⟨-, -, -, hfb⟩ | ⟨cost, u, -, hcost, hdevice, -, rfl⟩ := stepWith_display hstep
  · exact hfb
  · have hu := inFrame_of_deviceKept hdevice hs
    have hplace := position_of_deviceKept hdevice
    have hstay : position u + cost < 70224 := by
      have hlt := position_lt hu
      rw [position_ticks cost hu, blankStart] at hblank'
      omega
    exact (ticks_fb_of_blank hu (by omega) hstay).trans hdevice.fb

end Sys2Proof.Proofs.StepDisplay
end

section
/-! PROOFS. The driver loop (spec/70_reset_and_hazards.md R317 to R319): where it stops is said once (`StopsAt`), by
induction on the steps it may take; and the self-loop `JR -2` that ends a run by convention. -/

namespace Sys2Proof.Proofs.DriverLoop

open Sys2Proof Sys2Proof.Machine

/-- The driver loop from `s`, with leave for `n` steps, stops after `j` of them in `t`: at the first step boundary that is
no longer running, or with no leave left (R319). -/
structure StopsAt (l : Config.Launch) (n : Nat) (s : State) (j : Nat) (t : State) : Prop where
  allowed : j ≤ n
  reached : runSteps l.interpreter j s = .next t
  leave   : runStatus l t = .running → j = n
  before  : ∀ m u, m < j → runSteps l.interpreter m s = .next u → runStatus l u = .running

section
variable {l : Config.Launch} {n j : Nat} {s t u : State}

theorem stopsAt_here (h : runStatus l s = .running → n = 0) : StopsAt l n s 0 s :=
  ⟨Nat.zero_le n, rfl, fun hrunning => (h hrunning).symm, fun m _ hm => absurd hm (Nat.not_lt_zero m)⟩

/-- A running boundary put before a loop that stops. -/
theorem StopsAt.afterStep (hrunning : runStatus l s = .running) (hstep : stepWith l.interpreter s = .next t)
    (h : StopsAt l n t j u) : StopsAt l (n + 1) s (j + 1) u where
  allowed := Nat.succ_le_succ h.allowed
  reached := (runSteps_of_step hstep j).trans h.reached
  leave hu := congrArg Nat.succ (h.leave hu)
  before m v hm hv := by
    cases m with
    | zero => cases hv; exact hrunning
    | succ m => exact h.before m v (Nat.lt_of_succ_lt_succ hm) ((runSteps_of_step hstep m).symm.trans hv)

end

theorem driveFrom_stopsAt (l : Config.Launch) (n taken : Nat) (s : State) :
    ∃ j t, driveFrom l taken n s = .next { status := runStatus l t, steps := taken + j, state := t } ∧
      StopsAt l n s j t := by
  induction n generalizing taken s with
  | zero => exact ⟨0, s, driveFrom_zero l taken s, stopsAt_here fun _ => rfl⟩
  | succ n ih =>
    by_cases hrunning : runStatus l s = .running
    · obtain ⟨t, hstep⟩ := StepDisplay.stepIsTotal l.interpreter s
      obtain ⟨j, u, hdrive, hstops⟩ := ih (taken + 1) t
      refine ⟨j + 1, u, ?_, hstops.afterStep hrunning hstep⟩
      rw [driveFrom_running hrunning hstep, hdrive, Nat.add_right_comm, Nat.add_assoc]
    · exact ⟨0, s, driveFrom_stopped hrunning taken (n + 1), stopsAt_here fun h => absurd h hrunning⟩

theorem drive_stopsAt (l : Config.Launch) (n : Nat) (s : State) :
    ∃ j t, drive l n s = .next { status := runStatus l t, steps := j, state := t } ∧ StopsAt l n s j t := by
  obtain ⟨j, t, hdrive, hstops⟩ := driveFrom_stopsAt l n 0 s
  exact ⟨j, t, by rw [drive, hdrive, Nat.zero_add], hstops⟩

/-- A run never ends exactly where every step boundary is running: with leave for one step more the loop passes the
boundary in question. -/
theorem neverEnds_iff (l : Config.Launch) (s : State) :
    neverEnds l s ↔ ∀ n u, runSteps l.interpreter n s = .next u → runStatus l u = .running := by
  constructor
  · intro hnever n u hu
    obtain ⟨j, t, hdrive, hstops⟩ := drive_stopsAt l (n + 1) s
    obtain ⟨r, hr, hrunning⟩ := hnever (n + 1)
    cases hdrive.symm.trans hr
    have hj : j = n + 1 := hstops.leave hrunning
    exact hstops.before n u (by omega) hu
  · intro hall n
    obtain ⟨j, t, hdrive, hstops⟩ := drive_stopsAt l n s
    exact ⟨_, hdrive, hall j t hstops.reached⟩

/-! ### The conventional end -/

theorem exec_selfLoop (s : State) : exec (.jrE8 0xFE) s = .next { s with cycles := s.cycles + 12 } := by
  have hpc : s.pc + 2 + sext16 0xFE = s.pc := by
    rw [BitVec.add_assoc]
    exact BitVec.add_zero s.pc
  change Host.Outcome.next { s with pc := s.pc + 2 + sext16 0xFE, cycles := s.cycles + 12 } = _
  rw [hpc]

theorem decodeWith_selfLoop {k : Config.Interpreter} (hin : 0x18 ∉ k.leftOutPrimary) (rest : List Byte) :
    decodeWith k (0x18 :: 0xFE :: rest) = .ok (.jrE8 0xFE, rest) := by
  rw [decodeWith_byteImm k 0x18 0xFE .jrE8 rest rfl, if_neg (mt List.contains_iff_mem.mp hin)]

/-- A step on `JR -2` comes back to it (R234, R319). -/
theorem stepWith_selfLoop {k : Config.Interpreter} {s : State} (hfault : s.fault = none)
    (hop : read8 s.pc s = 0x18) (hdisp : read8 (s.pc + 1) s = 0xFE) (hin : 0x18 ∉ k.leftOutPrimary) :
    stepWith k s = .next (ticks 12 { s with cycles := s.cycles + 12 }) := by
  have hdecode : decodeWith k (fetchBytes s) = .ok (.jrE8 0xFE, [read8 (s.pc + 2) s]) := by
    rw [fetchBytes, hop, hdisp, decodeWith_selfLoop hin]
  rw [Encoding.stepWith_of_decode_ok hfault hdecode, exec_selfLoop, Encoding.settle_next, if_pos hfault,
    Nat.add_sub_cancel_left]

/-- Settles O50: the loop stops where `StopsAt` says, and the status of a boundary is read in the spec's own terms. -/
theorem runEndsAtFirstStop : Obligations.RunEndsAtFirstStop := by
  refine ⟨fun l n s => ?_, fun l s => ?_, fun k s => stepWith_selfLoop⟩
  · obtain ⟨j, t, hdrive, hstops⟩ := drive_stopsAt l n s
    exact ⟨_, hdrive, hstops.allowed, hstops.reached, runStatus_eq l t, hstops.leave,
      fun m u hm hu => (runStatus_running_iff l u).mp (hstops.before m u hm hu)⟩
  · simp only [neverEnds_iff, runStatus_running_iff]

end Sys2Proof.Proofs.DriverLoop
end

section
/-! PROOFS. The memory at power-on (spec/70_reset_and_hazards.md R310 to R312): what the loader copies where. -/

namespace Sys2Proof.Proofs.PowerOnImages

open Sys2Proof Sys2Proof.Machine

/-- A byte outside the copied range is kept. -/
theorem read_load_outside {m : Memory} {a b : Nat} {bytes : List Byte} (h : b < a ∨ a + bytes.length ≤ b) :
    (m.load a bytes).read b = m.read b := by
  induction bytes generalizing m a with
  | nil => rfl
  | cons v rest ih =>
    rw [List.length_cons] at h
    rw [Memory.load, ih (by omega), Memory.read_write_other m a b v (by omega)]

/-- A byte of the copied range is the byte copied there. -/
theorem read_load_inside {m : Memory} {a i : Nat} {bytes : List Byte} (hm : m.wf = true)
    (hfit : a + bytes.length ≤ 65536) (hi : i < bytes.length) : (m.load a bytes).read (a + i) = bytes.getD i 0 := by
  induction bytes generalizing m a i with
  | nil => exact absurd hi (Nat.not_lt_zero i)
  | cons v rest ih =>
    rw [List.length_cons] at hfit hi
    rw [Memory.load]
    cases i with
    | zero =>
      exact (read_load_outside (.inl (Nat.lt_succ_self a))).trans (Memory.read_write_same m a v 0 hm)
    | succ i =>
      rw [show a + (i + 1) = a + 1 + i by omega]
      exact ih (Memory.write_wf m a v hm (by omega)) (by omega) (by omega)

/-- The cartridge over the zero fill (R310, R311). -/
theorem read_loadCart {cart : List Byte} (hfit : cart.length ≤ 65536) (a : Nat) :
    (Memory.load [] 0 cart).read a = cart.getD a 0 := by
  by_cases ha : a < cart.length
  · have hread := read_load_inside (m := []) (a := 0) rfl (by omega) ha
    rwa [Nat.zero_add] at hread
  · rw [read_load_outside (.inr (by omega)), List.getD_eq_default _ _ (Nat.not_lt.mp ha)]
    rfl

/-- The boot image over the cartridge (R312, R320). -/
theorem read_powerOnMemory {cart boot : List Byte} (hcart : cart.length ≤ 65536) (hboot : boot.length = 256) (a : Nat) :
    (powerOnMemory cart boot).read a = if a < 256 then boot.getD a 0 else cart.getD a 0 := by
  rw [powerOnMemory]
  split
  · next ha =>
    have hwf : (Memory.load [] 0 cart).wf = true := Memory.load_wf [] 0 cart rfl (by omega)
    have hread := read_load_inside (a := 0) hwf (by omega) (hboot ▸ ha)
    rwa [Nat.zero_add] at hread
  · next ha => rw [read_load_outside (.inr (by omega)), read_loadCart hcart]

/-- Settles O59: both images pass their checks, so power-on answers `powerOnState`, whose fields but memory are the
launch's own or fixed (R313 to R315). -/
theorem powerOnLoadsImages : Obligations.PowerOnLoadsImages := by
  intro l cart boot hcart hboot hbootLen hcartLen
  have hok : powerOn l = .next (powerOnState l cart boot) :=
    PowerOn.powerOn_of_ok (by rw [hboot]; exact if_pos hbootLen) (by rw [hcart]; exact if_pos hcartLen)
  exact ⟨_, hok, fun a => read_powerOnMemory hcartLen hbootLen a.toNat, rfl, rfl, rfl, rfl, rfl, rfl, rfl, rfl, rfl,
    rfl, rfl, rfl, rfl, rfl, rfl, rfl, rfl⟩

end Sys2Proof.Proofs.PowerOnImages
end
